-- ==== Sys2Proof/Word.lean ====
section
/-! DEFINITION. The machine's value types (00_scope.md R10, R11, R20): bytes, 16-bit words, 2-bit shades.
Helpers that cut or join them stand in Machine/Bits.lean. -/

namespace Sys2Proof

/-- An 8-bit value (R10): a register, a memory byte, an immediate. -/
abbrev Byte := BitVec 8

/-- A 16-bit value (R10): SP, PC, a register pair, an address. -/
abbrev Word := BitVec 16

/-- A 2-bit colour index or shade (R826). -/
abbrev Shade := BitVec 2

end Sys2Proof
end

