-- ==== Sys2Proof/Machine/Memory.lean ====
section
/-! DEFINITION. A byte array as plain data: the listed cells in rising address order, none equal to what an unlisted
address reads as. Every storage array of the machine (ROM image, cartridge RAM, VRAM, OAM, work RAM, high RAM, sound
bytes) is one of these, keyed by the offset the spec indexes it with. -/

namespace Sys2Proof.Machine

/-- A sparse byte array: (key, byte) cells. -/
abbrev Memory := List Host.Cell

/-- What an unlisted key reads as: the reference value of `RAM_INIT` and `CART_RAM_INIT` (R28). DESIGN CHOICE, log entry 2: unsafe. -/
def Memory.unlisted : Byte := 0

/-- The byte at key `k`. -/
def Memory.read : Memory → Nat → Byte
  | [], _ => Memory.unlisted
  | c :: m, k => if c.1 = k then c.2 else Memory.read m k

/-- The cells without those of key `k`. -/
def Memory.erase (m : Memory) (k : Nat) : Memory := m.filter fun c => c.1 != k

/-- Puts a cell before the first cell of a higher key. -/
def Memory.insert (k : Nat) (v : Byte) : Memory → Memory
  | [] => [(k, v)]
  | c :: m => if k < c.1 then (k, v) :: c :: m else c :: Memory.insert k v m

/-- Stores `v` at key `k`; storing what an unlisted key reads as removes the cell. -/
def Memory.write (m : Memory) (k : Nat) (v : Byte) : Memory :=
  if v = Memory.unlisted then m.erase k else Memory.insert k v (m.erase k)

/-- Every key of `m` is above `k`. -/
def Memory.above (k : Nat) (m : Memory) : Bool := m.all fun c => decide (k < c.1)

/-- The canonical form: keys strictly rising, no cell equal to what an unlisted key reads as. -/
def Memory.wf : Memory → Bool
  | [] => true
  | c :: m => c.2 != Memory.unlisted && Memory.above c.1 m && Memory.wf m

/-- The cells of `m` with keys `base .. base + len - 1`, re-keyed from 0. -/
def Memory.slice (m : Memory) (base len : Nat) : Memory :=
  (m.filter fun c => decide (base ≤ c.1 ∧ c.1 < base + len)).map fun c => (c.1 - base, c.2)

/-- The cells of a byte sequence whose first byte has key `k`. -/
def Memory.ofBytesFrom (k : Nat) : List Byte → Memory
  | [] => []
  | b :: bs => if b = Memory.unlisted then Memory.ofBytesFrom (k + 1) bs else (k, b) :: Memory.ofBytesFrom (k + 1) bs

/-- The cells of a byte sequence keyed from 0 (R260). -/
def Memory.ofBytes (bs : List Byte) : Memory := Memory.ofBytesFrom 0 bs

/-- The `len` bytes from key `k` up. -/
def Memory.bytes (m : Memory) (k len : Nat) : List Byte := (List.range len).map fun i => m.read (k + i)

end Sys2Proof.Machine
end

