-- ==== Sys2Proof/Config.lean ====
section
/-! DEFINITION. The implementation parameters the spec leaves open (00_scope.md R22 to R30, decision D5, D6, D7, D11, D12,
D26, D41, D44). They are fixed for a machine; State carries them so that every statement over a state holds for every
value of them, and State.reset takes the reference values. -/

namespace Sys2Proof

/-- `COND_BRANCH_COST` (R22): which of the two cycle counts a conditional JR/JP/CALL/RET charges, taken or not. -/
inductive CondBranchCost where
  | notTaken | taken
deriving DecidableEq, Repr

/-- `STOP_LENGTH` (R26): the bytes the STOP instruction occupies. -/
inductive StopLength where
  | one | two
deriving DecidableEq, Repr

/-- `SAVE_ENDIAN` (R30): the byte order of the multi-byte integers of a save state. -/
inductive SaveEndian where
  | little | big
deriving DecidableEq, Repr

/-- The named parameters of 00_scope.md section 5, less `ROM` (R29), which is the loaded cartridge in State. -/
structure Config where
  /-- `COND_BRANCH_COST` (R22). -/
  condBranchCost : CondBranchCost
  /-- `HALT_STEP_CYCLES` (R23), positive. -/
  haltStepCycles : Nat
  /-- `ILLEGAL_OPCODE_CYCLES` (R24), positive. -/
  illegalOpcodeCycles : Nat
  /-- `DISPATCH_CYCLES` (R25). -/
  dispatchCycles : Nat
  /-- `STOP_LENGTH` (R26). -/
  stopLength : StopLength
  /-- `STAT_EXTRA_SOURCES` (R27). -/
  statExtraSources : Bool
  /-- `RAM_INIT` (R28), keyed by CPU address. -/
  ramInit : Machine.Memory
  /-- `CART_RAM_INIT` (R28), keyed by offset in the cartridge RAM. -/
  cartRamInit : Machine.Memory
  /-- `SAVE_MAGIC` (R30), its four bytes in record order. -/
  saveMagic : Byte × Byte × Byte × Byte
  /-- `SAVE_VERSION` (R30). -/
  saveVersion : BitVec 32
  /-- `SAVE_ENDIAN` (R30). -/
  saveEndian : SaveEndian
deriving DecidableEq, Repr

/-- The reference values (R22 to R28, R30). `SAVE_MAGIC` and `SAVE_VERSION` have none in the spec: DESIGN CHOICE, log entry 11. -/
def Config.reference : Config where
  condBranchCost := .notTaken
  haltStepCycles := 4
  illegalOpcodeCycles := 4
  dispatchCycles := 0
  stopLength := .two
  statExtraSources := false
  ramInit := []
  cartRamInit := []
  saveMagic := (0, 0, 0, 0)
  saveVersion := 0
  saveEndian := .little

/-- What the spec asks of the parameters: the two costs are positive (R23, R24); the two initial memories are in canonical form. -/
def Config.valid (p : Config) : Bool :=
  decide (0 < p.haltStepCycles) && decide (0 < p.illegalOpcodeCycles) && Machine.Memory.wf p.ramInit && Machine.Memory.wf p.cartRamInit

end Sys2Proof
end

