-- ==== Sys2Proof/Fields.lean ====
section
/-! DEFINITION. The operand fields of an opcode (30_encoding.md R302 to R308), each a small enumeration. -/

namespace Sys2Proof

/-- The seven registers a 3-bit field names (R302). Code 6 names no register: it is the byte at HL. -/
inductive R8 where
  | b | c | d | e | h | l | a
deriving DecidableEq, Repr

/-- The pairs of the SP group (R303). -/
inductive R16 where
  | bc | de | hl | sp
deriving DecidableEq, Repr

/-- The pairs of the AF group, PUSH and POP (R304). -/
inductive R16Stack where
  | bc | de | hl | af
deriving DecidableEq, Repr

/-- The four branch conditions (R305). -/
inductive Cond where
  | nz | z | nc | c
deriving DecidableEq, Repr

/-- The eight ALU operations on A (R306). -/
inductive AluOp where
  | add | adc | sub | sbc | and | xor | or | cp
deriving DecidableEq, Repr

/-- The eight rotate and shift operations of the CB table (R307). -/
inductive RotOp where
  | rlc | rrc | rl | rr | sla | sra | swap | srl
deriving DecidableEq, Repr

/-- A 3-bit operand field (R302): a register, or the byte at HL (code 6). -/
inductive Loc8 where
  | reg (r : R8)
  | atHl
deriving DecidableEq, Repr

/-- The source of an 8-bit operation (R316): register, byte at HL, or immediate. -/
inductive Src8 where
  | loc (x : Loc8)
  | imm (d8 : Byte)
deriving DecidableEq, Repr

/-- The eleven unrecognized primary bytes (R319). -/
inductive Unrecognized where
  | xD3 | xDB | xDD | xE3 | xE4 | xEB | xEC | xED | xF4 | xFC | xFD
deriving DecidableEq, Repr

end Sys2Proof
end

