-- ==== Sys2Proof/Machine/Bits.lean ====
section
/-! DEFINITION. Byte order, bit fields and sign extension (00_scope.md R10, R11; 20_memory.md R220). -/

namespace Sys2Proof.Machine

/-- Bits 7..0 of a word (R10). -/
def loByte (w : Word) : Byte := w.extractLsb' 0 8

/-- Bits 15..8 of a word (R10). -/
def hiByte (w : Word) : Byte := w.extractLsb' 8 8

/-- `hi ‖ lo`, the first byte above the second (R11). -/
def joinBytes (hi lo : Byte) : Word := hi ++ lo

/-- One bit of a byte (R10). -/
def bitOf (v : Byte) (i : Nat) : Bool := v.getLsbD i

/-- Bits 3..0 of a byte, as a number. -/
def lowNibble (v : Byte) : Nat := v.toNat % 16

/-- `sext_16` of an 8-bit displacement (R312). -/
def sext16 (e : Byte) : Word := e.signExtend 16

/-- A Boolean as the byte 0 or 1. -/
def boolByte (b : Bool) : Byte := if b then 1 else 0

/-- The address `0xFF00 + a8` of the high page (R311). -/
def highPage (a8 : Byte) : Word := joinBytes 0xFF a8

end Sys2Proof.Machine
end

