-- ==== Sys2Proof/Syntax.lean ====
section
/-! DEFINITION. The instruction set as syntax: one constructor per row of the opcode table (30_encoding.md R314, R318, R326).
An operand byte or word is carried as it stands in the instruction stream; register, condition, bit number and restart
target are part of the constructor, as they are part of the row. -/

namespace Sys2Proof

/-- The 512 rows of the opcode table: 256 of the primary table (the prefix row and the 11 unrecognized bytes among them)
and 256 of the CB table (R326). Rows Cx to Fx stand before rows 8x to Bx: the Lean compiler wants constructors with arguments
among the first 244. -/
inductive Instr where
  -- row 0x of R314
  | nop
  | ldBcD16 (d16 : Word)
  | ldAtBcA
  | incBc
  | incB
  | decB
  | ldBD8 (d8 : Byte)
  | rlca
  | ldAtA16Sp (a16 : Word)
  | addHlBc
  | ldAAtBc
  | decBc
  | incC
  | decC
  | ldCD8 (d8 : Byte)
  | rrca
  -- row 1x of R314
  | stop
  | ldDeD16 (d16 : Word)
  | ldAtDeA
  | incDe
  | incD
  | decD
  | ldDD8 (d8 : Byte)
  | rla
  | jrE8 (e8 : Byte)
  | addHlDe
  | ldAAtDe
  | decDe
  | incE
  | decE
  | ldED8 (d8 : Byte)
  | rra
  -- row 2x of R314
  | jrNzE8 (e8 : Byte)
  | ldHlD16 (d16 : Word)
  | ldAtHliA
  | incHl
  | incH
  | decH
  | ldHD8 (d8 : Byte)
  | daa
  | jrZE8 (e8 : Byte)
  | addHlHl
  | ldAAtHli
  | decHl
  | incL
  | decL
  | ldLD8 (d8 : Byte)
  | cpl
  -- row 3x of R314
  | jrNcE8 (e8 : Byte)
  | ldSpD16 (d16 : Word)
  | ldAtHldA
  | incSp
  | incAtHl
  | decAtHl
  | ldAtHlD8 (d8 : Byte)
  | scf
  | jrCE8 (e8 : Byte)
  | addHlSp
  | ldAAtHld
  | decSp
  | incA
  | decA
  | ldAD8 (d8 : Byte)
  | ccf
  -- row 4x of R314
  | ldBB
  | ldBC
  | ldBD
  | ldBE
  | ldBH
  | ldBL
  | ldBAtHl
  | ldBA
  | ldCB
  | ldCC
  | ldCD
  | ldCE
  | ldCH
  | ldCL
  | ldCAtHl
  | ldCA
  -- row 5x of R314
  | ldDB
  | ldDC
  | ldDD
  | ldDE
  | ldDH
  | ldDL
  | ldDAtHl
  | ldDA
  | ldEB
  | ldEC
  | ldED
  | ldEE
  | ldEH
  | ldEL
  | ldEAtHl
  | ldEA
  -- row 6x of R314
  | ldHB
  | ldHC
  | ldHD
  | ldHE
  | ldHH
  | ldHL
  | ldHAtHl
  | ldHA
  | ldLB
  | ldLC
  | ldLD
  | ldLE
  | ldLH
  | ldLL
  | ldLAtHl
  | ldLA
  -- row 7x of R314
  | ldAtHlB
  | ldAtHlC
  | ldAtHlD
  | ldAtHlE
  | ldAtHlH
  | ldAtHlL
  | halt
  | ldAtHlA
  | ldAB
  | ldAC
  | ldAD
  | ldAE
  | ldAH
  | ldAL
  | ldAAtHl
  | ldAA
  -- row Cx of R314
  | retNz
  | popBc
  | jpNzA16 (a16 : Word)
  | jpA16 (a16 : Word)
  | callNzA16 (a16 : Word)
  | pushBc
  | addAD8 (d8 : Byte)
  | rst00
  | retZ
  | ret
  | jpZA16 (a16 : Word)
  | prefixCb
  | callZA16 (a16 : Word)
  | callA16 (a16 : Word)
  | adcAD8 (d8 : Byte)
  | rst08
  -- row Dx of R314
  | retNc
  | popDe
  | jpNcA16 (a16 : Word)
  | illegalD3
  | callNcA16 (a16 : Word)
  | pushDe
  | subD8 (d8 : Byte)
  | rst10
  | retC
  | reti
  | jpCA16 (a16 : Word)
  | illegalDB
  | callCA16 (a16 : Word)
  | illegalDD
  | sbcAD8 (d8 : Byte)
  | rst18
  -- row Ex of R314
  | ldhAtA8A (a8 : Byte)
  | popHl
  | ldAtCA
  | illegalE3
  | illegalE4
  | pushHl
  | andD8 (d8 : Byte)
  | rst20
  | addSpE8 (e8 : Byte)
  | jpHl
  | ldAtA16A (a16 : Word)
  | illegalEB
  | illegalEC
  | illegalED
  | xorD8 (d8 : Byte)
  | rst28
  -- row Fx of R314
  | ldhAAtA8 (a8 : Byte)
  | popAf
  | ldAAtC
  | di
  | illegalF4
  | pushAf
  | orD8 (d8 : Byte)
  | rst30
  | ldHlSpE8 (e8 : Byte)
  | ldSpHl
  | ldAAtA16 (a16 : Word)
  | ei
  | illegalFC
  | illegalFD
  | cpD8 (d8 : Byte)
  | rst38
  -- row 8x of R314
  | addAB
  | addAC
  | addAD
  | addAE
  | addAH
  | addAL
  | addAAtHl
  | addAA
  | adcAB
  | adcAC
  | adcAD
  | adcAE
  | adcAH
  | adcAL
  | adcAAtHl
  | adcAA
  -- row 9x of R314
  | subB
  | subC
  | subD
  | subE
  | subH
  | subL
  | subAtHl
  | subA
  | sbcAB
  | sbcAC
  | sbcAD
  | sbcAE
  | sbcAH
  | sbcAL
  | sbcAAtHl
  | sbcAA
  -- row Ax of R314
  | andB
  | andC
  | andD
  | andE
  | andH
  | andL
  | andAtHl
  | andA
  | xorB
  | xorC
  | xorD
  | xorE
  | xorH
  | xorL
  | xorAtHl
  | xorA
  -- row Bx of R314
  | orB
  | orC
  | orD
  | orE
  | orH
  | orL
  | orAtHl
  | orA
  | cpB
  | cpC
  | cpD
  | cpE
  | cpH
  | cpL
  | cpAtHl
  | cpA
  -- CB row 0x of R318
  | rlcB
  | rlcC
  | rlcD
  | rlcE
  | rlcH
  | rlcL
  | rlcAtHl
  | rlcA
  | rrcB
  | rrcC
  | rrcD
  | rrcE
  | rrcH
  | rrcL
  | rrcAtHl
  | rrcA
  -- CB row 1x of R318
  | rlB
  | rlC
  | rlD
  | rlE
  | rlH
  | rlL
  | rlAtHl
  | rlA
  | rrB
  | rrC
  | rrD
  | rrE
  | rrH
  | rrL
  | rrAtHl
  | rrA
  -- CB row 2x of R318
  | slaB
  | slaC
  | slaD
  | slaE
  | slaH
  | slaL
  | slaAtHl
  | slaA
  | sraB
  | sraC
  | sraD
  | sraE
  | sraH
  | sraL
  | sraAtHl
  | sraA
  -- CB row 3x of R318
  | swapB
  | swapC
  | swapD
  | swapE
  | swapH
  | swapL
  | swapAtHl
  | swapA
  | srlB
  | srlC
  | srlD
  | srlE
  | srlH
  | srlL
  | srlAtHl
  | srlA
  -- CB row 4x of R318
  | bit0B
  | bit0C
  | bit0D
  | bit0E
  | bit0H
  | bit0L
  | bit0AtHl
  | bit0A
  | bit1B
  | bit1C
  | bit1D
  | bit1E
  | bit1H
  | bit1L
  | bit1AtHl
  | bit1A
  -- CB row 5x of R318
  | bit2B
  | bit2C
  | bit2D
  | bit2E
  | bit2H
  | bit2L
  | bit2AtHl
  | bit2A
  | bit3B
  | bit3C
  | bit3D
  | bit3E
  | bit3H
  | bit3L
  | bit3AtHl
  | bit3A
  -- CB row 6x of R318
  | bit4B
  | bit4C
  | bit4D
  | bit4E
  | bit4H
  | bit4L
  | bit4AtHl
  | bit4A
  | bit5B
  | bit5C
  | bit5D
  | bit5E
  | bit5H
  | bit5L
  | bit5AtHl
  | bit5A
  -- CB row 7x of R318
  | bit6B
  | bit6C
  | bit6D
  | bit6E
  | bit6H
  | bit6L
  | bit6AtHl
  | bit6A
  | bit7B
  | bit7C
  | bit7D
  | bit7E
  | bit7H
  | bit7L
  | bit7AtHl
  | bit7A
  -- CB row 8x of R318
  | res0B
  | res0C
  | res0D
  | res0E
  | res0H
  | res0L
  | res0AtHl
  | res0A
  | res1B
  | res1C
  | res1D
  | res1E
  | res1H
  | res1L
  | res1AtHl
  | res1A
  -- CB row 9x of R318
  | res2B
  | res2C
  | res2D
  | res2E
  | res2H
  | res2L
  | res2AtHl
  | res2A
  | res3B
  | res3C
  | res3D
  | res3E
  | res3H
  | res3L
  | res3AtHl
  | res3A
  -- CB row Ax of R318
  | res4B
  | res4C
  | res4D
  | res4E
  | res4H
  | res4L
  | res4AtHl
  | res4A
  | res5B
  | res5C
  | res5D
  | res5E
  | res5H
  | res5L
  | res5AtHl
  | res5A
  -- CB row Bx of R318
  | res6B
  | res6C
  | res6D
  | res6E
  | res6H
  | res6L
  | res6AtHl
  | res6A
  | res7B
  | res7C
  | res7D
  | res7E
  | res7H
  | res7L
  | res7AtHl
  | res7A
  -- CB row Cx of R318
  | set0B
  | set0C
  | set0D
  | set0E
  | set0H
  | set0L
  | set0AtHl
  | set0A
  | set1B
  | set1C
  | set1D
  | set1E
  | set1H
  | set1L
  | set1AtHl
  | set1A
  -- CB row Dx of R318
  | set2B
  | set2C
  | set2D
  | set2E
  | set2H
  | set2L
  | set2AtHl
  | set2A
  | set3B
  | set3C
  | set3D
  | set3E
  | set3H
  | set3L
  | set3AtHl
  | set3A
  -- CB row Ex of R318
  | set4B
  | set4C
  | set4D
  | set4E
  | set4H
  | set4L
  | set4AtHl
  | set4A
  | set5B
  | set5C
  | set5D
  | set5E
  | set5H
  | set5L
  | set5AtHl
  | set5A
  -- CB row Fx of R318
  | set6B
  | set6C
  | set6D
  | set6E
  | set6H
  | set6L
  | set6AtHl
  | set6A
  | set7B
  | set7C
  | set7D
  | set7E
  | set7H
  | set7L
  | set7AtHl
  | set7A
deriving DecidableEq, Repr

end Sys2Proof
end

