-- ==== Sys2Proof/Machine/Cost.lean ====
section
/-! DEFINITION. The cycle cost of every instruction (70_reset_and_hazards.md R968, 00_scope.md R22, R24). -/

namespace Sys2Proof.Machine

/-- A cell of the primary cost table (R968): a fixed count, a conditional pair, the prefix, an unrecognized opcode. -/
inductive CostCell where
  | n (cycles : Nat)
  | cond (notTaken taken : Nat)
  | pfx
  | ill
deriving DecidableEq, Repr

/-- The row of the primary cost table of a high nibble (R968). -/
def costRow : Nat → List CostCell
  | 0 => [.n 4, .n 12, .n 8, .n 8, .n 4, .n 4, .n 8, .n 4,
    .n 20, .n 8, .n 8, .n 8, .n 4, .n 4, .n 8, .n 4]
  | 1 => [.n 4, .n 12, .n 8, .n 8, .n 4, .n 4, .n 8, .n 4,
    .n 12, .n 8, .n 8, .n 8, .n 4, .n 4, .n 8, .n 4]
  | 2 => [.cond 8 12, .n 12, .n 8, .n 8, .n 4, .n 4, .n 8, .n 4,
    .cond 8 12, .n 8, .n 8, .n 8, .n 4, .n 4, .n 8, .n 4]
  | 3 => [.cond 8 12, .n 12, .n 8, .n 8, .n 12, .n 12, .n 12, .n 4,
    .cond 8 12, .n 8, .n 8, .n 8, .n 4, .n 4, .n 8, .n 4]
  | 4 => [.n 4, .n 4, .n 4, .n 4, .n 4, .n 4, .n 8, .n 4,
    .n 4, .n 4, .n 4, .n 4, .n 4, .n 4, .n 8, .n 4]
  | 5 => [.n 4, .n 4, .n 4, .n 4, .n 4, .n 4, .n 8, .n 4,
    .n 4, .n 4, .n 4, .n 4, .n 4, .n 4, .n 8, .n 4]
  | 6 => [.n 4, .n 4, .n 4, .n 4, .n 4, .n 4, .n 8, .n 4,
    .n 4, .n 4, .n 4, .n 4, .n 4, .n 4, .n 8, .n 4]
  | 7 => [.n 8, .n 8, .n 8, .n 8, .n 8, .n 8, .n 4, .n 8,
    .n 4, .n 4, .n 4, .n 4, .n 4, .n 4, .n 8, .n 4]
  | 8 => [.n 4, .n 4, .n 4, .n 4, .n 4, .n 4, .n 8, .n 4,
    .n 4, .n 4, .n 4, .n 4, .n 4, .n 4, .n 8, .n 4]
  | 9 => [.n 4, .n 4, .n 4, .n 4, .n 4, .n 4, .n 8, .n 4,
    .n 4, .n 4, .n 4, .n 4, .n 4, .n 4, .n 8, .n 4]
  | 10 => [.n 4, .n 4, .n 4, .n 4, .n 4, .n 4, .n 8, .n 4,
    .n 4, .n 4, .n 4, .n 4, .n 4, .n 4, .n 8, .n 4]
  | 11 => [.n 4, .n 4, .n 4, .n 4, .n 4, .n 4, .n 8, .n 4,
    .n 4, .n 4, .n 4, .n 4, .n 4, .n 4, .n 8, .n 4]
  | 12 => [.cond 8 20, .n 12, .cond 12 16, .n 16, .cond 12 24, .n 16, .n 8, .n 16,
    .cond 8 20, .n 16, .cond 12 16, .pfx, .cond 12 24, .n 24, .n 8, .n 16]
  | 13 => [.cond 8 20, .n 12, .cond 12 16, .ill, .cond 12 24, .n 16, .n 8, .n 16,
    .cond 8 20, .n 16, .cond 12 16, .ill, .cond 12 24, .ill, .n 8, .n 16]
  | 14 => [.n 12, .n 12, .n 8, .ill, .ill, .n 16, .n 8, .n 16,
    .n 16, .n 4, .n 16, .ill, .ill, .ill, .n 8, .n 16]
  | _ => [.n 12, .n 12, .n 8, .n 4, .ill, .n 16, .n 8, .n 16,
    .n 12, .n 8, .n 16, .n 4, .ill, .ill, .n 8, .n 16]

/-- The cell of an opcode (R968). -/
def costCell (op : Byte) : CostCell := (costRow (op.toNat / 16)).getD (op.toNat % 16) .pfx

/-- The cost of a conditional instruction, whether or not it branches (R22, R570). -/
def condCost (cfg : Config) (notTaken taken : Nat) : Nat :=
  match cfg.condBranchCost with
  | .notTaken => notTaken
  | .taken => taken

/-- The cost of a CB instruction by its second byte (R968), the prefix included: 8 for a register; for (HL), 12 for BIT and 16 for the rest. -/
def cbCost (op2 : Byte) : Nat :=
  if op2.toNat % 8 = 6 then (if op2.toNat / 64 = 1 then 12 else 16) else 8

/-- The cost of the instruction that begins with these bytes. The prefix row has no cost of its own (R326). -/
def bytesCost (cfg : Config) : List Byte → Nat
  | [] => 0
  | op :: rest =>
    match costCell op, rest with
    | .n c, _ => c
    | .cond a b, _ => condCost cfg a b
    | .ill, _ => cfg.illegalOpcodeCycles
    | .pfx, op2 :: _ => cbCost op2
    | .pfx, [] => 0

/-- The cost of an instruction (R968). -/
def instrCost (cfg : Config) (i : Instr) : Nat := bytesCost cfg (encode cfg.stopLength i)

end Sys2Proof.Machine
end

