-- ==== Sys2Proof/Machine/State.lean ====
section
/-! DEFINITION. Everything the spec gives the machine (10_state.md R100 to R165, 63_scheduler_host.md), as plain data,
grouped by the component that owns it, and the machine right after reset (70_reset_and_hazards.md R951, R953). -/

namespace Sys2Proof.Machine

/-- The CPU (R100 to R109). F is stored whole (R102); its four flags are bits 7..4 (R103). -/
structure Cpu where
  a : Byte
  f : Byte
  b : Byte
  c : Byte
  d : Byte
  e : Byte
  h : Byte
  l : Byte
  sp : Word
  pc : Word
  /-- Interrupt master enable (R106): one bit, also named `interruptsEnabled` (conflict C1). -/
  ime : Bool
  halted : Bool
  stopped : Bool
  /-- The monotonic cycle counter (R109), unbounded. -/
  cycles : Nat
deriving DecidableEq, Repr

/-- The dispatch state of the interrupt controller (R112, R714). -/
inductive IcPhase where
  | idle | dispatching
deriving DecidableEq, Repr

/-- The interrupt controller (R110 to R112). -/
structure IntCtl where
  /-- IF, its five request bits (R110): bit 0 VBlank, 1 LCD-STAT, 2 Timer, 3 Serial, 4 Joypad. -/
  reqs : BitVec 5
  /-- IE (R111), all eight bits. -/
  ie : Byte
  phase : IcPhase
deriving DecidableEq, Repr

/-- The programmable timer (R113 to R117). -/
structure Timer where
  div : Byte
  tima : Byte
  tma : Byte
  /-- TAC's three used bits (R116): bit 2 enable, bits 1..0 clock select. -/
  tac : BitVec 3
  divCounter : Nat
  timaCounter : Nat
deriving DecidableEq, Repr

/-- The PPU mode (R130, R800). -/
inductive PpuMode where
  | hblank | vblank | oam | vram
deriving DecidableEq, Repr

/-- The PPU (R120 to R136). -/
structure Ppu where
  lcdc : Byte
  /-- STAT bits 6..3, the stored interrupt enables (R122): bit 3 of this field is STAT bit 6. -/
  statEnables : BitVec 4
  /-- STAT bit 2 (R122). -/
  coincidence : Bool
  scy : Byte
  scx : Byte
  ly : Byte
  lyc : Byte
  /-- The last value written to 0xFF46 (R126). -/
  dma : Byte
  bgp : Byte
  obp0 : Byte
  obp1 : Byte
  wy : Byte
  wx : Byte
  mode : PpuMode
  /-- Cycles spent in the current mode (R131). -/
  acc : Nat
  frameReady : Bool
  /-- VRAM, keyed by address − 0x8000 (R133). -/
  vram : Memory
  /-- OAM, keyed by address − 0xFE00 (R134). -/
  oam : Memory
  /-- The frame buffer, 144 rows of 160 shades (R135). -/
  frame : List (List Shade)
  /-- Background compositing scratch: the colour index of each column of the line last rendered (R136). -/
  bgIndex : List Shade
  /-- Object compositing scratch: the columns a sprite owned on the line last drawn (R136, R830). -/
  objOwned : List Bool
deriving DecidableEq, Repr

/-- The joypad (R140, R141): the eight button booleans and JOYP's two stored select bits. -/
structure Joypad where
  a : Bool
  b : Bool
  start : Bool
  select : Bool
  up : Bool
  down : Bool
  left : Bool
  right : Bool
  /-- JOYP bit 5; false selects the action buttons. -/
  selAction : Bool
  /-- JOYP bit 4; false selects the direction buttons. -/
  selDir : Bool
deriving DecidableEq, Repr

/-- The bank-controller kinds (R150, R263). -/
inductive MbcKind where
  | none | mbc1 | mbc2 | mbc3 | mbc5
deriving DecidableEq, Repr

/-- The cartridge (R150 to R155): the ROM image of `romLen` bytes, the bank state, and the RAM of `ramLen` bytes (for MBC2,
512 nibbles). -/
structure Cart where
  kind : MbcKind
  rom : Memory
  romLen : Nat
  romBank : BitVec 9
  ramBank : BitVec 4
  ramEnabled : Bool
  /-- MBC1's mode latch (R154). -/
  bankingMode : Bool
  ram : Memory
  ramLen : Nat
deriving DecidableEq, Repr

/-- The scheduler's run state (R160). -/
inductive RunState where
  | stopped | running | paused
deriving DecidableEq, Repr

/-- One frame-callback call (R906): the finished buffer, and the audio samples where the audio callback was called too. -/
structure Delivery where
  frame : List (List Shade)
  audio : Option (List (BitVec 16))
deriving DecidableEq, Repr

/-- How the last frame-loop iteration left the frame (R905): still inside it, or ended, and how. -/
inductive FrameEnd where
  | inFrame
  | delivered (call : Delivery)
  | budgetExceeded
deriving DecidableEq, Repr

/-- The scheduler (R160, R161, R907) and what its last iteration reported to the host. -/
structure Sched where
  runState : RunState
  /-- Cycles consumed since the current frame began (R161). -/
  frameCycles : Nat
  /-- The queue of audio samples (R902, R907). -/
  samples : List (BitVec 16)
  /-- The model's own record of the return value and callback calls of R905 and R906 (log entry 18). -/
  lastFrame : FrameEnd
deriving DecidableEq, Repr

/-- The host configuration (R162). A callback is host code: only a handle to it is held. -/
structure HostConfig where
  frameCallback : Nat
  audioCallback : Nat
  soundEnabled : Bool
deriving DecidableEq, Repr

/-- The machine. -/
structure State where
  /-- The parameters of 00_scope.md section 5: the model's own field, which no step changes (log entry 1). -/
  cfg : Config
  cpu : Cpu
  ic : IntCtl
  timer : Timer
  ppu : Ppu
  joy : Joypad
  /-- The sound registers and wave RAM (R145), keyed by CPU address. -/
  sound : Memory
  cart : Cart
  /-- Work RAM, keyed by address − 0xC000 (R157). -/
  wram : Memory
  /-- High RAM, keyed by address − 0xFF80 (R158). -/
  hram : Memory
  sched : Sched
  host : HostConfig
deriving DecidableEq, Repr

/-- Why the machine would stop with a fault: never. The spec gives no exception, no trap and no error (R700), so the type has no
constructor. -/
inductive Fault where
deriving DecidableEq, Repr

/-- Why a step is refused. -/
inductive Refusal where
  /-- Raised by exec's arm of an instruction without a meaning; no arm raises it now. Safe: the machine stops. -/
  | notModelled (mnemonic : String)
deriving DecidableEq, Repr

/-- The sound bytes after reset (R953); the bytes not listed, and wave RAM, are 0x00. -/
def State.resetSound : Memory :=
  [(0xFF10, 0x80), (0xFF11, 0xBF), (0xFF12, 0xF3), (0xFF14, 0xBF), (0xFF16, 0x3F), (0xFF19, 0xBF)] ++
  [(0xFF1A, 0x7F), (0xFF1B, 0xFF), (0xFF1C, 0x9F), (0xFF1E, 0xBF), (0xFF20, 0xFF), (0xFF23, 0xBF)] ++
  [(0xFF24, 0x77), (0xFF25, 0xF3), (0xFF26, 0xF1)]

/-- The CPU after reset (R951, R953). -/
def State.resetCpu : Cpu where
  a := 0x01
  f := 0xB0
  b := 0x00
  c := 0x13
  d := 0x00
  e := 0xD8
  h := 0x01
  l := 0x4D
  sp := 0xFFFE
  pc := 0x0100
  ime := false
  halted := false
  stopped := false
  cycles := 0

/-- The PPU after reset (R951, R953), its memories apart. -/
def State.resetPpu : Ppu where
  lcdc := 0x91
  statEnables := 0
  coincidence := true
  scy := 0
  scx := 0
  ly := 0
  lyc := 0
  dma := 0xFF
  bgp := 0xFC
  obp0 := 0xFF
  obp1 := 0xFF
  wy := 0
  wx := 0
  mode := .oam
  acc := 0
  frameReady := false
  vram := []
  oam := []
  frame := List.replicate 144 (List.replicate 160 0)
  bgIndex := List.replicate 160 0
  objOwned := List.replicate 160 false

/-- The cartridge of the reset state: the smallest image a load accepts (R267), 0x8000 zero bytes, so kind None without RAM
(R263, R265). DESIGN CHOICE, log entry 3. -/
def State.resetCart : Cart where
  kind := .none
  rom := []
  romLen := 0x8000
  romBank := 1
  ramBank := 0
  ramEnabled := false
  bankingMode := false
  ram := []
  ramLen := 0

/-- The machine right after reset (R951, R953), with the reference parameters (log entry 1) and the smallest cartridge (log entry 3). -/
def State.reset : State where
  cfg := Config.reference
  cpu := State.resetCpu
  ic := { reqs := 0, ie := 0, phase := .idle }
  timer := { div := 0, tima := 0, tma := 0, tac := 0, divCounter := 0, timaCounter := 0 }
  ppu := State.resetPpu
  joy := { a := false, b := false, start := false, select := false, up := false, down := false, left := false, right := false,
           selAction := false, selDir := false }
  sound := State.resetSound
  cart := State.resetCart
  wram := []
  hram := []
  sched := { runState := .stopped, frameCycles := 0, samples := [], lastFrame := .inFrame }
  host := { frameCallback := 0, audioCallback := 0, soundEnabled := false }

end Sys2Proof.Machine
end

