-- ==== Sys2Proof/Machine/Flags.lean ====
section
/-! DEFINITION. The flags (10_state.md R102, R103) and every flag computation of the instruction set: 8-bit add, subtract and
logic (41_alu8.md R450 to R452), INC and DEC (R477, R479), DAA (R481), 16-bit add (42_alu16.md R502, R503), rotates and shifts
(43_rotate_shift_bit.md R530 to R550), BIT (R551). Operands are taken to exact integers, computed, and narrowed at the end. -/

namespace Sys2Proof.Machine

/-- The four flags Z, N, H, C (R103). -/
structure Flags where
  z : Bool
  n : Bool
  h : Bool
  c : Bool
deriving DecidableEq, Repr

/-- F from the four flags: bits 7, 6, 5, 4, with the low nibble 0 (R102, R103). -/
def packFlags (fl : Flags) : Byte :=
  (if fl.z then 0x80 else 0) ||| (if fl.n then 0x40 else 0) ||| (if fl.h then 0x20 else 0) ||| (if fl.c then 0x10 else 0)

/-- Z, F bit 7. -/
def flagZ (s : State) : Bool := bitOf s.cpu.f 7

/-- N, F bit 6. -/
def flagN (s : State) : Bool := bitOf s.cpu.f 6

/-- H, F bit 5. -/
def flagH (s : State) : Bool := bitOf s.cpu.f 5

/-- C, F bit 4. -/
def flagC (s : State) : Bool := bitOf s.cpu.f 4

/-- The four flags of a state. -/
def flagsOf (s : State) : Flags := { z := flagZ s, n := flagN s, h := flagH s, c := flagC s }

/-- Writes the four flags (R102). -/
def setFlags (fl : Flags) (s : State) : State := { s with cpu.f := packFlags fl }

/-- A write of F as a whole stores `v & 0xF0` (R102). -/
def setF (v : Byte) (s : State) : State := { s with cpu.f := v &&& 0xF0 }

/-- An 8-bit result and its flags. -/
structure Result8 where
  res : Byte
  fl : Flags
deriving DecidableEq, Repr

/-- `Add8(a, b, c)` (R450). -/
def add8 (a b : Byte) (cin : Bool) : Result8 :=
  let t := a.toNat + b.toNat + cin.toNat
  let res := BitVec.ofNat 8 t
  { res := res
    fl := { z := res == 0, n := false, h := decide (lowNibble a + lowNibble b + cin.toNat > 0x0F), c := decide (t > 0xFF) } }

/-- `Sub8(a, b, c)` (R451). -/
def sub8 (a b : Byte) (cin : Bool) : Result8 :=
  let t : Int := (a.toNat : Int) - (b.toNat : Int) - (cin.toNat : Int)
  let res := BitVec.ofInt 8 t
  { res := res
    fl := { z := res == 0, n := true, h := decide (lowNibble a < lowNibble b + cin.toNat),
            c := decide (a.toNat < b.toNat + cin.toNat) } }

/-- `Logic8(res, h)` (R452). -/
def logic8 (res : Byte) (h : Bool) : Result8 :=
  { res := res, fl := { z := res == 0, n := false, h := h, c := false } }

/-- What an ALU operation of R306 computes from A, its operand and the carry flag. CP's result is A itself (R474). -/
def aluResult (op : AluOp) (a v : Byte) (cf : Bool) : Result8 :=
  match op with
  | .add => add8 a v false
  | .adc => add8 a v cf
  | .sub => sub8 a v false
  | .sbc => sub8 a v cf
  | .and => logic8 (a &&& v) true
  | .xor => logic8 (a ^^^ v) false
  | .or => logic8 (a ||| v) false
  | .cp => { res := a, fl := (sub8 a v false).fl }

/-- INC of a byte (R477); C is kept. -/
def inc8 (old : Byte) (cf : Bool) : Result8 :=
  let res := BitVec.ofNat 8 (old.toNat + 1)
  { res := res, fl := { z := res == 0, n := false, h := decide (lowNibble old = 0x0F), c := cf } }

/-- DEC of a byte (R479); C is kept. -/
def dec8 (old : Byte) (cf : Bool) : Result8 :=
  let res := BitVec.ofInt 8 ((old.toNat : Int) - 1)
  { res := res, fl := { z := res == 0, n := true, h := decide (lowNibble old = 0), c := cf } }

/-- DAA (R481), from A, N, H and C. -/
def daa8 (a : Byte) (n h c : Bool) : Result8 :=
  if n then
    let a1 := if c then a - 0x60 else a
    let a2 := if h then a1 - 0x06 else a1
    { res := a2, fl := { z := a2 == 0, n := true, h := false, c := c } }
  else
    let high := c || decide (a.toNat > 0x99)
    let a1 := if high then a + 0x60 else a
    let a2 := if h || decide (lowNibble a1 > 0x09) then a1 + 0x06 else a1
    { res := a2, fl := { z := a2 == 0, n := false, h := false, c := high } }

/-- A 16-bit result with its half carry and carry. -/
structure Result16 where
  res : Word
  h : Bool
  c : Bool
deriving DecidableEq, Repr

/-- `ADD HL,rr` (R502): H is the carry out of bit 11, C the carry out of bit 15. -/
def add16 (a b : Word) : Result16 :=
  let t := a.toNat + b.toNat
  { res := BitVec.ofNat 16 t
    h := decide (a.toNat % 0x1000 + b.toNat % 0x1000 > 0x0FFF)
    c := decide (t > 0xFFFF) }

/-- SP plus a signed displacement (R503): H and C are the unsigned carries of the low byte. -/
def addDisp (sp : Word) (e8 : Byte) : Result16 :=
  { res := sp + sext16 e8
    h := decide (sp.toNat % 0x10 + lowNibble e8 > 0x0F)
    c := decide (sp.toNat % 0x100 + e8.toNat > 0xFF) }

/-- The carry out of a rotate or shift of R535 to R549. -/
def rotCarry (op : RotOp) (v : Byte) : Bool :=
  match op with
  | .rlc | .rl | .sla => bitOf v 7
  | .rrc | .rr | .sra | .srl => bitOf v 0
  | .swap => false

/-- The value of a rotate or shift of R535 to R549, from the operand and the old carry flag. -/
def rotValue (op : RotOp) (v : Byte) (cf : Bool) : Byte :=
  match op with
  | .rlc => (v <<< 1) ||| (if bitOf v 7 then 0x01 else 0)
  | .rrc => (v >>> 1) ||| (if bitOf v 0 then 0x80 else 0)
  | .rl => (v <<< 1) ||| (if cf then 0x01 else 0)
  | .rr => (v >>> 1) ||| (if cf then 0x80 else 0)
  | .sla => v <<< 1
  | .sra => (v >>> 1) ||| (v &&& 0x80)
  | .swap => (v <<< 4) ||| (v >>> 4)
  | .srl => v >>> 1

/-- A rotate or shift of the CB table with its flags (R535 to R550). -/
def rot8 (op : RotOp) (v : Byte) (cf : Bool) : Result8 :=
  let res := rotValue op v cf
  { res := res, fl := { z := res == 0, n := false, h := false, c := rotCarry op v } }

/-- A rotate of A in the primary table (R530 to R533): the same value and carry, Z always cleared. -/
def rotA8 (op : RotOp) (v : Byte) (cf : Bool) : Result8 :=
  { res := rotValue op v cf, fl := { z := false, n := false, h := false, c := rotCarry op v } }

/-- The flags of `BIT b` (R551): Z is the complement of the tested bit, C is kept. -/
def bitFlags (v : Byte) (b : Fin 8) (cf : Bool) : Flags :=
  { z := !bitOf v b.val, n := false, h := true, c := cf }

/-- The byte with only bit `b` set. -/
def bitMask (b : Fin 8) : Byte := 1 <<< b.val

/-- RES (R553): bit `b` cleared. -/
def clearBit (v : Byte) (b : Fin 8) : Byte := v &&& ~~~ bitMask b

/-- SET (R555): bit `b` set. -/
def setBit (v : Byte) (b : Fin 8) : Byte := v ||| bitMask b

/-- Whether a branch condition holds (R570). -/
def condHolds (cc : Cond) (s : State) : Bool :=
  match cc with
  | .nz => !flagZ s
  | .z => flagZ s
  | .nc => !flagC s
  | .c => flagC s

end Sys2Proof.Machine
end

