-- ==== Sys2Proof/Machine/Cartridge.lean ====
section
/-! DEFINITION. The cartridge and its bank controllers (21_cartridge_mbc.md): the header, the two ROM windows, external RAM, and
one write decoder per kind. -/

namespace Sys2Proof.Machine

/-- The kind a cartridge-type byte selects, or none where the byte is unrecognized (R263). -/
def kindOfType (t : Byte) : Option MbcKind :=
  match t.toNat with
  | 0x00 | 0x08 | 0x09 => some .none
  | 0x01 | 0x02 | 0x03 => some .mbc1
  | 0x05 | 0x06 => some .mbc2
  | 0x0F | 0x10 | 0x11 | 0x12 | 0x13 => some .mbc3
  | 0x19 | 0x1A | 0x1B | 0x1C | 0x1D | 0x1E => some .mbc5
  | _ => none

/-- The RAM size of a RAM-size byte (R265). -/
def ramSizeOf (code : Byte) : Nat :=
  match code.toNat with
  | 1 => 2048
  | 2 => 8192
  | 3 => 32768
  | 4 => 131072
  | 5 => 65536
  | _ => 0

/-- The length of the cartridge RAM array of a kind (R265, R266). -/
def ramLenOf (kind : MbcKind) (code : Byte) : Nat :=
  match kind with
  | .mbc2 => 512
  | .none | .mbc1 | .mbc3 | .mbc5 => ramSizeOf code

/-- The byte at offset `e` of the ROM image, 0xFF past its end (R268, R269). -/
def romRead (c : Cart) (e : Nat) : Byte := if e < c.romLen then c.rom.read e else 0xFF

/-- The image offset the window 0x4000-0x7FFF shows at window offset `off` (R269). -/
def romBankOffset (c : Cart) (off : Nat) : Nat := c.romBank.toNat * 0x4000 + off

/-- The key in the RAM array that an access at window offset `off` of 0xA000-0xBFFF reaches, or none where the RAM is disabled
or the access out of range (R270). Window offset and address agree in their low 9 bits. -/
def extKey (c : Cart) (off : Nat) : Option Nat :=
  match c.kind with
  | .none => if off < c.ramLen then some off else none
  | .mbc1 | .mbc3 | .mbc5 =>
    if c.ramEnabled then
      let e := c.ramBank.toNat * 0x2000 + off
      if e < c.ramLen then some e else none
    else none
  | .mbc2 => if c.ramEnabled then some (off % 0x200) else none

/-- External RAM read (R270). An MBC2 entry is a nibble. -/
def extRead (c : Cart) (off : Nat) : Byte :=
  match extKey c off with
  | none => 0xFF
  | some k =>
    match c.kind with
    | .mbc2 => c.ram.read k &&& 0x0F
    | .none | .mbc1 | .mbc3 | .mbc5 => c.ram.read k

/-- External RAM write (R271). -/
def extWrite (c : Cart) (off : Nat) (v : Byte) : Cart :=
  match extKey c off with
  | none => c
  | some k =>
    match c.kind with
    | .mbc2 => { c with ram := c.ram.write k (v &&& 0x0F) }
    | .none | .mbc1 | .mbc3 | .mbc5 => { c with ram := c.ram.write k v }

/-- The RAM-enable latch of a written byte (R273, R277, R279, R283). -/
def enableOf (v : Byte) : Bool := decide (lowNibble v = 0x0A)

/-- 0 becomes 1 (R274, R277, R280). -/
def zeroToOne (n : Nat) : Nat := if n = 0 then 1 else n

/-- MBC1's write decoder (R273 to R276). -/
def mbc1Write (c : Cart) (a : Nat) (v : Byte) : Cart :=
  if a < 0x2000 then { c with ramEnabled := enableOf v }
  else if a < 0x4000 then
    { c with romBank := (c.romBank &&& 0x60) ||| BitVec.ofNat 9 (zeroToOne (v.toNat % 0x20)) }
  else if a < 0x6000 then
    if c.bankingMode then { c with ramBank := BitVec.ofNat 4 (v.toNat % 4) }
    else { c with romBank := BitVec.ofNat 9 (v.toNat % 4 * 0x20) ||| (c.romBank &&& 0x1F) }
  else { c with bankingMode := bitOf v 0 }

/-- MBC2's write decoder (R277, R278). -/
def mbc2Write (c : Cart) (a : Nat) (v : Byte) : Cart :=
  if a < 0x4000 then
    if a / 0x100 % 2 = 0 then { c with ramEnabled := enableOf v }
    else { c with romBank := BitVec.ofNat 9 (zeroToOne (lowNibble v)) }
  else c

/-- MBC3's write decoder (R279 to R282). -/
def mbc3Write (c : Cart) (a : Nat) (v : Byte) : Cart :=
  if a < 0x2000 then { c with ramEnabled := enableOf v }
  else if a < 0x4000 then { c with romBank := BitVec.ofNat 9 (zeroToOne (v.toNat % 0x80)) }
  else if a < 0x6000 then { c with ramBank := BitVec.ofNat 4 (v.toNat % 4) }
  else c

/-- MBC5's write decoder (R283 to R287). -/
def mbc5Write (c : Cart) (a : Nat) (v : Byte) : Cart :=
  if a < 0x2000 then { c with ramEnabled := enableOf v }
  else if a < 0x3000 then { c with romBank := (c.romBank &&& 0x100) ||| BitVec.ofNat 9 v.toNat }
  else if a < 0x4000 then { c with romBank := BitVec.ofNat 9 (v.toNat % 2 * 0x100) ||| (c.romBank &&& 0xFF) }
  else if a < 0x6000 then { c with ramBank := BitVec.ofNat 4 (lowNibble v) }
  else c

/-- A write to 0x0000-0x7FFF (R205, R272, R290): the kind's own decoder. -/
def mbcWrite (c : Cart) (a : Nat) (v : Byte) : Cart :=
  match c.kind with
  | .none => c
  | .mbc1 => mbc1Write c a v
  | .mbc2 => mbc2Write c a v
  | .mbc3 => mbc3Write c a v
  | .mbc5 => mbc5Write c a v

/-- The bank state at load and at reset (R288). -/
def resetBanks (c : Cart) : Cart :=
  { c with romBank := 1, ramBank := 0, ramEnabled := false, bankingMode := false }

end Sys2Proof.Machine
end

