-- ==== Sys2Proof/Machine/Interrupt.lean ====
section
/-! DEFINITION. Interrupt requests, pending interrupts and their priority (60_exceptions.md R701 to R706). Taking one is in
Machine/Ops.lean. -/

namespace Sys2Proof.Machine

/-- The five interrupt sources, by bit number (R701). -/
inductive IntSource where
  | vblank | lcdStat | timer | serial | joypad
deriving DecidableEq, Repr

/-- The bit of IF and IE a source owns (R701). -/
def IntSource.bit : IntSource → Nat
  | .vblank => 0
  | .lcdStat => 1
  | .timer => 2
  | .serial => 3
  | .joypad => 4

/-- The vector of a source, `0x0040 + 8*b` (R701, R705). -/
def IntSource.vector (b : IntSource) : Word := BitVec.ofNat 16 (0x0040 + 8 * b.bit)

/-- The IF mask of a source. -/
def IntSource.mask (b : IntSource) : BitVec 5 := 1 <<< b.bit

/-- `request(b)` (R702): sets the IF bit and unconditionally ends a HALT. -/
def request (b : IntSource) (s : State) : State :=
  { s with ic.reqs := s.ic.reqs ||| b.mask, cpu.halted := false }

/-- `request(b)` where a condition holds. -/
def requestIf (p : Bool) (b : IntSource) (s : State) : State := if p then request b s else s

/-- `IE[4:0] & IF[4:0]` (R704). -/
def pendingBits (s : State) : BitVec 5 := s.ic.ie.setWidth 5 &&& s.ic.reqs

/-- The lowest-numbered pending source (R706), none where none is pending. -/
def pendingSource (s : State) : Option IntSource :=
  let p := pendingBits s
  if p.getLsbD 0 then some .vblank
  else if p.getLsbD 1 then some .lcdStat
  else if p.getLsbD 2 then some .timer
  else if p.getLsbD 3 then some .serial
  else if p.getLsbD 4 then some .joypad
  else none

/-- The source a dispatch check serves: the lowest-numbered pending one, where IME = 1 (R705). -/
def dispatchSource (s : State) : Option IntSource := if s.cpu.ime then pendingSource s else none

end Sys2Proof.Machine
end

