-- ==== Sys2Proof/Machine/Joypad.lean ====
section
/-! DEFINITION. The joypad: JOYP's read value and write (10_state.md R141), and the host's press and release
(60_exceptions.md R717, R718). -/

namespace Sys2Proof.Machine

/-- The eight logical buttons (R140). -/
inductive Button where
  | a | b | start | select | up | down | left | right
deriving DecidableEq, Repr

/-- `pressed[key]` (R140). -/
def Joypad.pressed (j : Joypad) : Button → Bool
  | .a => j.a
  | .b => j.b
  | .start => j.start
  | .select => j.select
  | .up => j.up
  | .down => j.down
  | .left => j.left
  | .right => j.right

/-- Sets `pressed[key]`. -/
def Joypad.setPressed (j : Joypad) (key : Button) (v : Bool) : Joypad :=
  match key with
  | .a => { j with a := v }
  | .b => { j with b := v }
  | .start => { j with start := v }
  | .select => { j with select := v }
  | .up => { j with up := v }
  | .down => { j with down := v }
  | .left => { j with left := v }
  | .right => { j with right := v }

/-- Four Booleans as bits 3..0. -/
def nibbleOf (b3 b2 b1 b0 : Bool) : Byte :=
  (if b3 then 8 else 0) ||| (if b2 then 4 else 0) ||| (if b1 then 2 else 0) ||| (if b0 then 1 else 0)

/-- The read value of JOYP (R141). -/
def joypRead (j : Joypad) : Byte :=
  let lo0 : Byte := 0x0F
  let lo1 := if j.selDir then lo0 else lo0 &&& ~~~ nibbleOf j.down j.up j.left j.right
  let lo2 := if j.selAction then lo1 else lo1 &&& ~~~ nibbleOf j.start j.select j.b j.a
  0xC0 ||| (if j.selAction then 0x20 else 0) ||| (if j.selDir then 0x10 else 0) ||| lo2

/-- A write of JOYP stores `v[5:4]` (R141). -/
def joypWrite (j : Joypad) (v : Byte) : Joypad := { j with selAction := bitOf v 5, selDir := bitOf v 4 }

/-- `Press(key)` (R717): a press transition ends a STOP and requests the Joypad interrupt. -/
def press (key : Button) (s : State) : State :=
  if s.joy.pressed key then s
  else request .joypad { s with joy := s.joy.setPressed key true, cpu.stopped := false }

/-- `Release(key)` (R717). -/
def release (key : Button) (s : State) : State := { s with joy := s.joy.setPressed key false }

end Sys2Proof.Machine
end

