-- ==== Sys2Proof/Machine/Render.lean ====
section
/-! DEFINITION. The scanline renderer (62_ppu.md R820 to R833). It reads VRAM, OAM and the registers directly (R820). A pixel is
computed from its column alone: the loops of R827 and R830 visit each column independently (R831). -/

namespace Sys2Proof.Machine

/-- The VRAM byte at a CPU address of 0x8000-0x9FFF. -/
def vramAt (p : Ppu) (addr : Nat) : Byte := p.vram.read (addr - 0x8000)

/-- The OAM byte at offset `i`. -/
def oamAt (p : Ppu) (i : Nat) : Byte := p.oam.read i

/-- LCDC bit `i` (R121). -/
def lcdcBit (p : Ppu) (i : Nat) : Bool := bitOf p.lcdc i

/-- The first address of a background or window tile's data (R823): unsigned from 0x8000, or the "8800 method". -/
def tileBase (idx : Byte) (unsignedSel : Bool) : Nat :=
  if unsignedSel then 0x8000 + idx.toNat * 16 else 0x8800 + (idx.toInt + 128).toNat * 16

/-- The colour index two bit-planes give at bit `i` (R824). -/
def planePixel (lo hi : Byte) (i : Nat) : Shade :=
  (if bitOf hi i then 2 else 0) ||| (if bitOf lo i then 1 else 0)

/-- `tilePixel(idx, row, col, sel)` (R824). -/
def tilePixel (p : Ppu) (idx : Byte) (row col : Nat) (unsignedSel : Bool) : Shade :=
  let base := tileBase idx unsignedSel
  planePixel (vramAt p (base + 2 * row)) (vramAt p (base + 2 * row + 1)) (7 - col)

/-- `shade(P, ci) = (P >> (2*ci)) & 3` (R825). -/
def shade (pal : Byte) (ci : Shade) : Shade := (pal >>> (2 * ci.toNat)).setWidth 2

/-- A tile map's first address (R822, R827). -/
def mapBase (sel : Bool) : Nat := if sel then 0x9C00 else 0x9800

/-- The pixel (px, py) of a 256×256 tile map. -/
def mapPixel (p : Ppu) (base px py : Nat) : Shade :=
  tilePixel p (vramAt p (base + py / 8 * 32 + px / 8)) (py % 8) (px % 8) (lcdcBit p 4)

/-- The background's colour index at column `x` of line `ly` (R822). -/
def backgroundPixel (p : Ppu) (ly x : Nat) : Shade :=
  mapPixel p (mapBase (lcdcBit p 3)) ((x + p.scx.toNat) % 256) ((ly + p.scy.toNat) % 256)

/-- Whether the window covers column `x` of line `ly` (R820, R827): the window's left edge is column WX − 7. -/
def windowCovers (p : Ppu) (ly x : Nat) : Bool :=
  lcdcBit p 5 && decide (p.wy.toNat ≤ ly) && decide (p.wx.toNat ≤ x + 7)

/-- The window's colour index at column `x` of line `ly` (R827). -/
def windowPixel (p : Ppu) (ly x : Nat) : Shade :=
  mapPixel p (mapBase (lcdcBit p 6)) (x + 7 - p.wx.toNat) (ly - p.wy.toNat)

/-- `bgIndex[x]` of line `ly` (R820, R821, R822, R827). -/
def bgIndexAt (p : Ppu) (ly x : Nat) : Shade :=
  if lcdcBit p 0 then
    if windowCovers p ly x then windowPixel p ly x else backgroundPixel p ly x
  else 0

/-- The background and window shade at column `x` (R821, R825): no palette lookup where LCDC bit 0 is 0. -/
def bgShadeAt (p : Ppu) (ly x : Nat) : Shade :=
  if lcdcBit p 0 then shade p.bgp (bgIndexAt p ly x) else 0

/-- The sprite height (R829). -/
def spriteHeight (p : Ppu) : Nat := if lcdcBit p 2 then 16 else 8

/-- Whether OAM entry `i` covers line `ly` (R829): `Y − 16 ≤ ly < Y − 16 + h`, exactly. -/
def spriteCovers (p : Ppu) (ly i : Nat) : Bool :=
  let y := (oamAt p (4 * i)).toNat
  decide (y ≤ ly + 16) && decide (ly + 16 < y + spriteHeight p)

/-- The selected OAM entries of line `ly`: the first ten in OAM order (R829). -/
def selectedSprites (p : Ppu) (ly : Nat) : List Nat :=
  ((List.range 40).filter fun i => spriteCovers p ly i).take 10

/-- The colour index entry `i` has at column `x` of line `ly`: 0 where it does not reach the column or is transparent (R830). -/
def spriteIndexAt (p : Ppu) (ly i x : Nat) : Shade :=
  let y := (oamAt p (4 * i)).toNat
  let sx := (oamAt p (4 * i + 1)).toNat
  let t := oamAt p (4 * i + 2)
  let attr := oamAt p (4 * i + 3)
  let h := spriteHeight p
  if sx ≤ x + 8 ∧ x < sx then
    let row0 := ly + 16 - y
    let row := if bitOf attr 6 then h - 1 - row0 else row0
    let tile := if h = 16 then t &&& 0xFE else t
    let base := 0x8000 + tile.toNat * 16 + row * 2
    let c := x + 8 - sx
    planePixel (vramAt p base) (vramAt p (base + 1)) (if bitOf attr 5 then c else 7 - c)
  else 0

/-- The entry that owns column `x` (R831): the first selected one with an opaque pixel there. -/
def spriteOwner (p : Ppu) (ly x : Nat) : Option Nat :=
  (selectedSprites p ly).find? fun i => spriteIndexAt p ly i x != 0

/-- The shade at column `x` with sprites drawn (R830, R831). -/
def spriteShadeAt (p : Ppu) (ly x : Nat) : Shade :=
  match spriteOwner p ly x with
  | none => bgShadeAt p ly x
  | some i =>
    let attr := oamAt p (4 * i + 3)
    if bitOf attr 7 && bgIndexAt p ly x != 0 then bgShadeAt p ly x
    else shade (if bitOf attr 4 then p.obp1 else p.obp0) (spriteIndexAt p ly i x)

/-- The finished shade at column `x` of line `ly` (R820). -/
def pixelAt (p : Ppu) (ly x : Nat) : Shade :=
  if lcdcBit p 1 then spriteShadeAt p ly x else bgShadeAt p ly x

/-- `renderLine(ly)` (R820): rewrites row `ly` of the frame buffer and the compositing scratch. R804 and R820 give it for `ly` in
0..143 only; a loaded record (R917) can reach it with 144 to 153, where the buffer has no row: the frame buffer is left as it is and
the scratch is rewritten (DESIGN CHOICE, log entry 23). -/
def renderLine (ly : Nat) (p : Ppu) : Ppu :=
  { p with
    frame := p.frame.set ly ((List.range 160).map fun x => pixelAt p ly x)
    bgIndex := (List.range 160).map fun x => bgIndexAt p ly x
    objOwned := if lcdcBit p 1 then (List.range 160).map fun x => (spriteOwner p ly x).isSome else p.objOwned }

end Sys2Proof.Machine
end

