-- ==== Sys2Proof/Machine/Ppu.lean ====
section
/-! DEFINITION. The PPU's mode machine, LY compare and display enable (62_ppu.md R800 to R814), and STAT (10_state.md R122). -/

namespace Sys2Proof.Machine

/-- The mode's two bits (R130, R800). -/
def PpuMode.code : PpuMode → BitVec 2
  | .hblank => 0
  | .vblank => 1
  | .oam => 2
  | .vram => 3

/-- The mode of two bits (R800). -/
def PpuMode.ofCode (v : BitVec 2) : PpuMode :=
  match v.toNat with
  | 0 => .hblank
  | 1 => .vblank
  | 2 => .oam
  | _ => .vram

/-- The mode's length in cycles, for VBlank that of one line (R801). -/
def PpuMode.length : PpuMode → Nat
  | .hblank => 204
  | .vblank => 456
  | .oam => 80
  | .vram => 172

/-- LCDC bit 7 (R121). -/
def displayOn (s : State) : Bool := lcdcBit s.ppu 7

/-- STAT bit `i`, for i in 3..6: an interrupt enable (R122). -/
def statEnable (s : State) (i : Nat) : Bool := s.ppu.statEnables.getLsbD (i - 3)

/-- The read value of STAT (R122). -/
def statRead (p : Ppu) : Byte :=
  0x80 ||| (p.statEnables.setWidth 8 <<< 3) ||| (if p.coincidence then 4 else 0) ||| p.mode.code.setWidth 8

/-- A write of STAT stores `v[6:3]` (R122). -/
def statWrite (v : Byte) (s : State) : State := { s with ppu.statEnables := v.extractLsb' 3 4 }

/-- `SetLY(v)` (R812): every change of LY re-evaluates LY == LYC. -/
def setLY (v : Byte) (s : State) : State :=
  requestIf (v == s.ppu.lyc && statEnable s 6) .lcdStat { s with ppu.ly := v, ppu.coincidence := v == s.ppu.lyc }

/-- `enterHBlank()` (R804). -/
def enterHBlank (s : State) : State :=
  requestIf (statEnable s 3) .lcdStat { s with ppu := renderLine s.ppu.ly.toNat { s.ppu with mode := .hblank } }

/-- `enterVBlank()` (R806, R813). -/
def enterVBlank (s : State) : State :=
  requestIf (s.cfg.statExtraSources && statEnable s 4) .lcdStat
    (request .vblank { s with ppu.mode := .vblank, ppu.frameReady := true })

/-- `enterOAM()` (R808, R813). -/
def enterOAM (s : State) : State :=
  requestIf (s.cfg.statExtraSources && statEnable s 5) .lcdStat { s with ppu.mode := .oam }

/-- `endHBlankLine()` (R805). -/
def endHBlankLine (s : State) : State :=
  let t := setLY (s.ppu.ly + 1) s
  if t.ppu.ly = 144 then enterVBlank t else enterOAM t

/-- `endVBlankLine()` (R807). -/
def endVBlankLine (s : State) : State :=
  if s.ppu.ly = 153 then enterOAM (setLY 0 s) else setLY (s.ppu.ly + 1) s

/-- The end of the current mode's length (R802): the length is taken off the accumulator and the mode's transition runs. -/
def ppuTransition (s : State) : State :=
  let t := { s with ppu.acc := s.ppu.acc - s.ppu.mode.length }
  match s.ppu.mode with
  | .oam => { t with ppu.mode := .vram }
  | .vram => enterHBlank t
  | .hblank => endHBlankLine t
  | .vblank => endVBlankLine t

/-- The loop of R802, at most `fuel` transitions. -/
def ppuLoop : Nat → State → State
  | 0, s => s
  | fuel + 1, s => if s.ppu.acc < s.ppu.mode.length then s else ppuLoop fuel (ppuTransition s)

/-- `ppu.step(n)` (R802, R814). Every transition takes at least 80 cycles off the accumulator, so `acc / 80` of them suffice. -/
def ppuStep (n : Nat) (s : State) : State :=
  if displayOn s then ppuLoop ((s.ppu.acc + n) / 80) { s with ppu.acc := s.ppu.acc + n } else s

/-- A write of LCDC (R121), with the effects of a change of bit 7: display disable (R810) and enable (R811). -/
def lcdcWrite (v : Byte) (s : State) : State :=
  let t := { s with ppu.lcdc := v }
  match displayOn s, bitOf v 7 with
  | true, false =>
    let u := setLY 0 t
    { u with ppu.mode := .hblank, ppu.acc := 0 }
  | false, true => setLY 0 { t with ppu.mode := .oam, ppu.acc := 0 }
  | true, true => t
  | false, false => t

end Sys2Proof.Machine
end

