-- ==== Sys2Proof/Machine/Timer.lean ====
section
/-! DEFINITION. The programmable timer (61_timer.md). -/

namespace Sys2Proof.Machine

/-- `PERIOD[TAC[1:0]]` (R766). -/
def timerPeriod (tac : BitVec 3) : Nat :=
  match tac.toNat % 4 with
  | 0 => 1024
  | 1 => 16
  | 2 => 64
  | _ => 256

/-- TAC bit 2, the timer enable (R116). -/
def timerEnabled (tac : BitVec 3) : Bool := tac.getLsbD 2

/-- One TIMA tick (R765): on overflow, reload from TMA and request the Timer interrupt. -/
def timaTick (s : State) : State :=
  if s.timer.tima = 0xFF then request .timer { s with timer.tima := s.timer.tma }
  else { s with timer.tima := s.timer.tima + 1 }

/-- `k` ticks in a row. -/
def timaTicks : Nat → State → State
  | 0, s => s
  | k + 1, s => timaTicks k (timaTick s)

/-- The DIV half of `timer.step(n)` (R760): one increment for every 256 cycles, the remainder kept. -/
def divStep (n : Nat) (s : State) : State :=
  let t := s.timer.divCounter + n
  { s with timer.div := s.timer.div + BitVec.ofNat 8 (t / 256), timer.divCounter := t % 256 }

/-- The TIMA half of `timer.step(n)` (R760): where enabled, one tick for every period, the remainder kept. -/
def timaStep (n : Nat) (s : State) : State :=
  if timerEnabled s.timer.tac then
    let t := s.timer.timaCounter + n
    let p := timerPeriod s.timer.tac
    timaTicks (t / p) { s with timer.timaCounter := t % p }
  else s

/-- `timer.step(n)` (R760). -/
def timerStep (n : Nat) (s : State) : State := timaStep n (divStep n s)

/-- A write to DIV (R761): any value clears DIV and its sub-cycle counter. -/
def divWrite (s : State) : State := { s with timer.div := 0, timer.divCounter := 0 }

/-- A write to TAC (R764): disabling resets the TIMA sub-cycle counter. -/
def tacWrite (v : Byte) (s : State) : State :=
  { s with timer.tac := v.setWidth 3, timer.timaCounter := if bitOf v 2 then s.timer.timaCounter else 0 }

/-- The read value of TAC (R116). -/
def tacRead (s : State) : Byte := 0xF8 ||| s.timer.tac.setWidth 8

end Sys2Proof.Machine
end

