-- ==== Sys2Proof/Machine/Mmu.lean ====
section
/-! DEFINITION. The MMU (20_memory.md): the region map, read8 and write8, the I/O block, the OAM DMA, 16-bit access, and the
device step (63_scheduler_host.md R901, R902). -/

namespace Sys2Proof.Machine

/-- The listed addresses of the I/O block (10_state.md R165); every other address of the block is open bus. -/
inductive IoReg where
  | joyp | div | tima | tma | tac | iflag
  | sound (addr : Nat)
  | lcdc | stat | scy | scx | ly | lyc | dma | bgp | obp0 | obp1 | wy | wx
  | unlisted
deriving DecidableEq, Repr

/-- The I/O row of an address of 0xFF00-0xFF7F (R165). -/
def ioRegOf (a : Nat) : IoReg :=
  if a = 0xFF00 then .joyp
  else if a = 0xFF04 then .div
  else if a = 0xFF05 then .tima
  else if a = 0xFF06 then .tma
  else if a = 0xFF07 then .tac
  else if a = 0xFF0F then .iflag
  else if 0xFF10 ≤ a ∧ a ≤ 0xFF26 then .sound a
  else if 0xFF30 ≤ a ∧ a ≤ 0xFF3F then .sound a
  else if a = 0xFF40 then .lcdc
  else if a = 0xFF41 then .stat
  else if a = 0xFF42 then .scy
  else if a = 0xFF43 then .scx
  else if a = 0xFF44 then .ly
  else if a = 0xFF45 then .lyc
  else if a = 0xFF46 then .dma
  else if a = 0xFF47 then .bgp
  else if a = 0xFF48 then .obp0
  else if a = 0xFF49 then .obp1
  else if a = 0xFF4A then .wy
  else if a = 0xFF4B then .wx
  else .unlisted

/-- A row of the region map, with the offset inside the storage behind it (R201). The two work-RAM banks are one array (R209), and
the echo is the same array (R210). -/
inductive Region where
  | rom0 (off : Nat)
  | romN (off : Nat)
  | vram (off : Nat)
  | ext (off : Nat)
  | wram (off : Nat)
  | oam (off : Nat)
  | unusable
  | io (r : IoReg)
  | hram (off : Nat)
  | ie
deriving DecidableEq, Repr

/-- The region of an address (R201, R210). -/
def regionOf (a : Nat) : Region :=
  if a < 0x4000 then .rom0 a
  else if a < 0x8000 then .romN (a - 0x4000)
  else if a < 0xA000 then .vram (a - 0x8000)
  else if a < 0xC000 then .ext (a - 0xA000)
  else if a < 0xE000 then .wram (a - 0xC000)
  else if a < 0xFE00 then .wram (a - 0xE000)
  else if a < 0xFEA0 then .oam (a - 0xFE00)
  else if a < 0xFF00 then .unusable
  else if a < 0xFF80 then .io (ioRegOf a)
  else if a < 0xFFFF then .hram (a - 0xFF80)
  else .ie

/-- The read value of an I/O row (R165). -/
def ioRead (s : State) : IoReg → Byte
  | .joyp => joypRead s.joy
  | .div => s.timer.div
  | .tima => s.timer.tima
  | .tma => s.timer.tma
  | .tac => tacRead s
  | .iflag => 0xE0 ||| s.ic.reqs.setWidth 8
  | .sound a => s.sound.read a
  | .lcdc => s.ppu.lcdc
  | .stat => statRead s.ppu
  | .scy => s.ppu.scy
  | .scx => s.ppu.scx
  | .ly => s.ppu.ly
  | .lyc => s.ppu.lyc
  | .dma => s.ppu.dma
  | .bgp => s.ppu.bgp
  | .obp0 => s.ppu.obp0
  | .obp1 => s.ppu.obp1
  | .wy => s.ppu.wy
  | .wx => s.ppu.wx
  | .unlisted => 0xFF

/-- The read value of a region (R201). -/
def regionRead (s : State) : Region → Byte
  | .rom0 off => romRead s.cart off
  | .romN off => romRead s.cart (romBankOffset s.cart off)
  | .vram off => s.ppu.vram.read off
  | .ext off => extRead s.cart off
  | .wram off => s.wram.read off
  | .oam off => s.ppu.oam.read off
  | .unusable => 0xFF
  | .io r => ioRead s r
  | .hram off => s.hram.read off
  | .ie => s.ic.ie

/-- `read8(addr)` (R202): total, and without effect on the state (R223). -/
def read8 (s : State) (addr : Word) : Byte := regionRead s (regionOf addr.toNat)

/-- Whether the PPU mode locks VRAM writes (R207). -/
def vramLocked (s : State) : Bool := s.ppu.mode == .vram

/-- Whether the PPU mode locks OAM writes (R212). -/
def oamLocked (s : State) : Bool := s.ppu.mode == .oam || s.ppu.mode == .vram

/-- A write of OAM entry byte `off` through the lock (R212). -/
def oamWrite (off : Nat) (v : Byte) (s : State) : State :=
  if oamLocked s then s else { s with ppu.oam := s.ppu.oam.write off v }

/-- Byte `i` of the OAM DMA from page `v` (R225). -/
def dmaByte (v : Byte) (s : State) (i : Nat) : State :=
  oamWrite i (read8 s (joinBytes v 0 + BitVec.ofNat 16 i)) s

/-- A write of 0xFF46 (R126, R225): the byte is stored and the 160-byte copy runs. -/
def dmaWrite (v : Byte) (s : State) : State :=
  (List.range 160).foldl (dmaByte v) { s with ppu.dma := v }

/-- The write effect of an I/O row (R165). -/
def ioWrite (v : Byte) (s : State) : IoReg → State
  | .joyp => { s with joy := joypWrite s.joy v }
  | .div => divWrite s
  | .tima => { s with timer.tima := v }
  | .tma => { s with timer.tma := v }
  | .tac => tacWrite v s
  | .iflag => { s with ic.reqs := v.setWidth 5 }
  | .sound a => { s with sound := s.sound.write a v }
  | .lcdc => lcdcWrite v s
  | .stat => statWrite v s
  | .scy => { s with ppu.scy := v }
  | .scx => { s with ppu.scx := v }
  | .ly => s
  | .lyc => { s with ppu.lyc := v }
  | .dma => dmaWrite v s
  | .bgp => { s with ppu.bgp := v }
  | .obp0 => { s with ppu.obp0 := v }
  | .obp1 => { s with ppu.obp1 := v }
  | .wy => { s with ppu.wy := v }
  | .wx => { s with ppu.wx := v }
  | .unlisted => s

/-- The write effect of a region (R201, R205, R207, R209, R212 to R216). -/
def regionWrite (v : Byte) (s : State) : Region → State
  | .rom0 off => { s with cart := mbcWrite s.cart off v }
  | .romN off => { s with cart := mbcWrite s.cart (0x4000 + off) v }
  | .vram off => if vramLocked s then s else { s with ppu.vram := s.ppu.vram.write off v }
  | .ext off => { s with cart := extWrite s.cart off v }
  | .wram off => { s with wram := s.wram.write off v }
  | .oam off => oamWrite off v s
  | .unusable => s
  | .io r => ioWrite v s r
  | .hram off => { s with hram := s.hram.write off v }
  | .ie => { s with ic.ie := v }

/-- `write8(addr, v)` (R203). -/
def write8 (addr : Word) (v : Byte) (s : State) : State := regionWrite v s (regionOf addr.toNat)

/-- `read16(addr)` (R218): low byte first, the second address wrapping. -/
def read16 (s : State) (addr : Word) : Word := joinBytes (read8 s (addr + 1)) (read8 s addr)

/-- `write16(addr, v)` (R219). -/
def write16 (addr : Word) (v : Word) (s : State) : State := write8 (addr + 1) (hiByte v) (write8 addr (loByte v) s)

/-- `sound.step(n)` does nothing (R902). -/
def soundStep (_n : Nat) (s : State) : State := s

/-- `mmu.step(n)` (R901). -/
def mmuStep (n : Nat) (s : State) : State := soundStep n (timerStep n (ppuStep n s))

end Sys2Proof.Machine
end

