-- ==== Sys2Proof/Machine/Ops.lean ====
section
/-! DEFINITION. The named operations over registers and the stack, and taking an interrupt with the return from one
(10_state.md R100 to R106, 40_loads.md R400, R401, 60_exceptions.md R705, R707, 44_control.md R580). -/

namespace Sys2Proof.Machine

/-- An 8-bit register (R100, R302). -/
def reg8 (s : State) : R8 → Byte
  | .b => s.cpu.b
  | .c => s.cpu.c
  | .d => s.cpu.d
  | .e => s.cpu.e
  | .h => s.cpu.h
  | .l => s.cpu.l
  | .a => s.cpu.a

/-- Writes an 8-bit register. -/
def setReg8 (r : R8) (v : Byte) (s : State) : State :=
  match r with
  | .b => { s with cpu.b := v }
  | .c => { s with cpu.c := v }
  | .d => { s with cpu.d := v }
  | .e => { s with cpu.e := v }
  | .h => { s with cpu.h := v }
  | .l => { s with cpu.l := v }
  | .a => { s with cpu.a := v }

/-- BC = B ‖ C (R101). -/
def bc (s : State) : Word := joinBytes s.cpu.b s.cpu.c

/-- DE = D ‖ E (R101). -/
def de (s : State) : Word := joinBytes s.cpu.d s.cpu.e

/-- HL = H ‖ L (R101). -/
def hl (s : State) : Word := joinBytes s.cpu.h s.cpu.l

/-- AF = A ‖ F (R101). -/
def af (s : State) : Word := joinBytes s.cpu.a s.cpu.f

/-- Writes both halves of BC. -/
def setBc (v : Word) (s : State) : State := { s with cpu.b := hiByte v, cpu.c := loByte v }

/-- Writes both halves of DE. -/
def setDe (v : Word) (s : State) : State := { s with cpu.d := hiByte v, cpu.e := loByte v }

/-- Writes both halves of HL. -/
def setHl (v : Word) (s : State) : State := { s with cpu.h := hiByte v, cpu.l := loByte v }

/-- Writes A and, through the mask of R102, F. -/
def setAf (v : Word) (s : State) : State := setF (loByte v) { s with cpu.a := hiByte v }

/-- Writes SP (R104). -/
def setSp (v : Word) (s : State) : State := { s with cpu.sp := v }

/-- Writes PC (R105). -/
def setPc (v : Word) (s : State) : State := { s with cpu.pc := v }

/-- A pair of the SP group (R303). -/
def reg16 (s : State) : R16 → Word
  | .bc => bc s
  | .de => de s
  | .hl => hl s
  | .sp => s.cpu.sp

/-- Writes a pair of the SP group. -/
def setReg16 (p : R16) (v : Word) (s : State) : State :=
  match p with
  | .bc => setBc v s
  | .de => setDe v s
  | .hl => setHl v s
  | .sp => setSp v s

/-- A pair of the AF group (R304). -/
def stackReg (s : State) : R16Stack → Word
  | .bc => bc s
  | .de => de s
  | .hl => hl s
  | .af => af s

/-- Writes a pair of the AF group; F keeps its low nibble 0 (R102, R427). -/
def setStackReg (p : R16Stack) (v : Word) (s : State) : State :=
  match p with
  | .bc => setBc v s
  | .de => setDe v s
  | .hl => setHl v s
  | .af => setAf v s

/-- Where a push stores: SP − 2 (R400). -/
def pushAddr (s : State) : Word := s.cpu.sp - 2

/-- `Push16(v)` (R400). -/
def push16 (v : Word) (s : State) : State := write16 (pushAddr s) v (setSp (pushAddr s) s)

/-- The value `Pop16()` returns (R401). -/
def popValue (s : State) : Word := read16 s s.cpu.sp

/-- The state `Pop16()` leaves: SP + 2 (R401). -/
def popState (s : State) : State := setSp (s.cpu.sp + 2) s

/-- `cpu.interrupt(vector)` (R707), the one way an exception is taken: IME and `halted` are cleared, PC is pushed and becomes the
vector. -/
def interrupt (vector : Word) (s : State) : State :=
  if s.cpu.ime then setPc vector (push16 s.cpu.pc { s with cpu.ime := false, cpu.halted := false }) else s

/-- Serving source `b` (R705): its IF bit is cleared and the CPU takes the interrupt, the controller being `dispatching`
meanwhile (R714). -/
def dispatch (b : IntSource) (s : State) : State :=
  let t := { s with ic.phase := .dispatching, ic.reqs := s.ic.reqs &&& ~~~ b.mask }
  let u := interrupt b.vector t
  { u with ic.phase := .idle }

/-- `checkAndDispatch()` (R705), its state. It returns true exactly when `dispatchSource` is some source. -/
def checkAndDispatch (s : State) : State :=
  match dispatchSource s with
  | none => s
  | some b => dispatch b s

/-- The return from an interrupt (R580, R711): PC is popped and IME becomes 1. -/
def returnFromInterrupt (s : State) : State :=
  let t := setPc (popValue s) (popState s)
  { t with cpu.ime := true }

end Sys2Proof.Machine
end

