-- ==== Sys2Proof/Machine/Operands.lean ====
section
/-! DEFINITION. The operand forms (30_encoding.md R302 to R312, 43_rotate_shift_bit.md R534): where an operand is, how it is read
and how it is written. -/

namespace Sys2Proof.Machine

/-- `CBGet(z)` (R534), and the read of every 3-bit operand field (R302). -/
def readLoc (s : State) : Loc8 → Byte
  | .reg r => reg8 s r
  | .atHl => read8 s (hl s)

/-- `CBPut(z, v)` (R534), and the write of every 3-bit operand field (R302). -/
def writeLoc (x : Loc8) (v : Byte) (s : State) : State :=
  match x with
  | .reg r => setReg8 r v s
  | .atHl => write8 (hl s) v s

/-- The address a write of an operand field stores to: HL for the memory form, none for a register. -/
def storeAddr (s : State) : Loc8 → Option Word
  | .reg _ => none
  | .atHl => some (hl s)

/-- The source operand of an 8-bit operation (R316). -/
def readSrc (s : State) : Src8 → Byte
  | .loc x => readLoc s x
  | .imm v => v

/-- The address of a displacement `e8` from PC (R312, R574): PC is the address after the instruction. -/
def relTarget (s : State) (e8 : Byte) : Word := s.cpu.pc + sext16 e8

/-- The address `0xFF00 + C` (R311). -/
def highC (s : State) : Word := highPage s.cpu.c

end Sys2Proof.Machine
end

