-- ==== Sys2Proof/Machine/Alu16.lean ====
section
/-! DEFINITION. 16-bit arithmetic (42_alu16.md R500 to R504). -/

namespace Sys2Proof.Machine

/-- INC rr (R500). -/
def incPair (p : R16) (s : State) : State := setReg16 p (reg16 s p + 1) s

/-- DEC rr (R501). -/
def decPair (p : R16) (s : State) : State := setReg16 p (reg16 s p - 1) s

/-- ADD HL,rr (R502): Z is kept. -/
def addHl (p : R16) (s : State) : State :=
  let r := add16 (hl s) (reg16 s p)
  setFlags { z := flagZ s, n := false, h := r.h, c := r.c } (setHl r.res s)

/-- The flags of `ADD SP,e8` and `LD HL,SP+e8` (R503, R504). -/
def dispFlags (r : Result16) : Flags := { z := false, n := false, h := r.h, c := r.c }

/-- ADD SP,e8 (R503). -/
def addSp (e8 : Byte) (s : State) : State :=
  let r := addDisp s.cpu.sp e8
  setFlags (dispFlags r) (setSp r.res s)

/-- LD HL,SP+e8 (R504). -/
def loadHlSp (e8 : Byte) (s : State) : State :=
  let r := addDisp s.cpu.sp e8
  setFlags (dispFlags r) (setHl r.res s)

/-- INC BC (R500). -/
def execIncBc (s : State) : Host.Outcome State Fault Refusal := .next (incPair .bc s)

/-- ADD HL,BC (R502). -/
def execAddHlBc (s : State) : Host.Outcome State Fault Refusal := .next (addHl .bc s)

/-- DEC BC (R501). -/
def execDecBc (s : State) : Host.Outcome State Fault Refusal := .next (decPair .bc s)

/-- INC DE (R500). -/
def execIncDe (s : State) : Host.Outcome State Fault Refusal := .next (incPair .de s)

/-- ADD HL,DE (R502). -/
def execAddHlDe (s : State) : Host.Outcome State Fault Refusal := .next (addHl .de s)

/-- DEC DE (R501). -/
def execDecDe (s : State) : Host.Outcome State Fault Refusal := .next (decPair .de s)

/-- INC HL (R500). -/
def execIncHl (s : State) : Host.Outcome State Fault Refusal := .next (incPair .hl s)

/-- ADD HL,HL (R502). -/
def execAddHlHl (s : State) : Host.Outcome State Fault Refusal := .next (addHl .hl s)

/-- DEC HL (R501). -/
def execDecHl (s : State) : Host.Outcome State Fault Refusal := .next (decPair .hl s)

/-- INC SP (R500). -/
def execIncSp (s : State) : Host.Outcome State Fault Refusal := .next (incPair .sp s)

/-- ADD HL,SP (R502). -/
def execAddHlSp (s : State) : Host.Outcome State Fault Refusal := .next (addHl .sp s)

/-- DEC SP (R501). -/
def execDecSp (s : State) : Host.Outcome State Fault Refusal := .next (decPair .sp s)

/-- ADD SP,e8 (R503). -/
def execAddSpE8 (e8 : Byte) (s : State) : Host.Outcome State Fault Refusal := .next (addSp e8 s)

/-- LD HL,SP+e8 (R504). -/
def execLdHlSpE8 (e8 : Byte) (s : State) : Host.Outcome State Fault Refusal := .next (loadHlSp e8 s)

end Sys2Proof.Machine
end

