-- ==== Sys2Proof/Machine/Alu8.lean ====
section
/-! DEFINITION. 8-bit arithmetic and logic (41_alu8.md R453 to R484). -/

namespace Sys2Proof.Machine

/-- Writes an 8-bit result to its place and its flags to F. -/
def putResult (x : Loc8) (r : Result8) (s : State) : State := setFlags r.fl (writeLoc x r.res s)

/-- An ALU operation on A (R453 to R476). CP writes A back unchanged. -/
def aluOn (op : AluOp) (src : Src8) (s : State) : State :=
  putResult (.reg .a) (aluResult op s.cpu.a (readSrc s src) (flagC s)) s

/-- INC r and INC (HL) (R477, R478): the flags come from the value read. -/
def incLoc (x : Loc8) (s : State) : State := putResult x (inc8 (readLoc s x) (flagC s)) s

/-- DEC r and DEC (HL) (R479, R480). -/
def decLoc (x : Loc8) (s : State) : State := putResult x (dec8 (readLoc s x) (flagC s)) s

/-- DAA (R481). -/
def decimalAdjust (s : State) : State := putResult (.reg .a) (daa8 s.cpu.a (flagN s) (flagH s) (flagC s)) s

/-- CPL (R482). -/
def complementA (s : State) : State :=
  putResult (.reg .a) { res := s.cpu.a ^^^ 0xFF, fl := { z := flagZ s, n := true, h := true, c := flagC s } } s

/-- SCF (R483). -/
def setCarry (s : State) : State := setFlags { z := flagZ s, n := false, h := false, c := true } s

/-- CCF (R484). -/
def complementCarry (s : State) : State := setFlags { z := flagZ s, n := false, h := false, c := !flagC s } s

/-- INC B (R477). -/
def execIncB (s : State) : Host.Outcome State Fault Refusal := .next (incLoc (.reg .b) s)

/-- DEC B (R479). -/
def execDecB (s : State) : Host.Outcome State Fault Refusal := .next (decLoc (.reg .b) s)

/-- INC C (R477). -/
def execIncC (s : State) : Host.Outcome State Fault Refusal := .next (incLoc (.reg .c) s)

/-- DEC C (R479). -/
def execDecC (s : State) : Host.Outcome State Fault Refusal := .next (decLoc (.reg .c) s)

/-- INC D (R477). -/
def execIncD (s : State) : Host.Outcome State Fault Refusal := .next (incLoc (.reg .d) s)

/-- DEC D (R479). -/
def execDecD (s : State) : Host.Outcome State Fault Refusal := .next (decLoc (.reg .d) s)

/-- INC E (R477). -/
def execIncE (s : State) : Host.Outcome State Fault Refusal := .next (incLoc (.reg .e) s)

/-- DEC E (R479). -/
def execDecE (s : State) : Host.Outcome State Fault Refusal := .next (decLoc (.reg .e) s)

/-- INC H (R477). -/
def execIncH (s : State) : Host.Outcome State Fault Refusal := .next (incLoc (.reg .h) s)

/-- DEC H (R479). -/
def execDecH (s : State) : Host.Outcome State Fault Refusal := .next (decLoc (.reg .h) s)

/-- DAA (R481). -/
def execDaa (s : State) : Host.Outcome State Fault Refusal := .next (decimalAdjust s)

/-- INC L (R477). -/
def execIncL (s : State) : Host.Outcome State Fault Refusal := .next (incLoc (.reg .l) s)

/-- DEC L (R479). -/
def execDecL (s : State) : Host.Outcome State Fault Refusal := .next (decLoc (.reg .l) s)

/-- CPL (R482). -/
def execCpl (s : State) : Host.Outcome State Fault Refusal := .next (complementA s)

/-- INC (HL) (R478). -/
def execIncAtHl (s : State) : Host.Outcome State Fault Refusal := .next (incLoc .atHl s)

/-- DEC (HL) (R480). -/
def execDecAtHl (s : State) : Host.Outcome State Fault Refusal := .next (decLoc .atHl s)

/-- SCF (R483). -/
def execScf (s : State) : Host.Outcome State Fault Refusal := .next (setCarry s)

/-- INC A (R477). -/
def execIncA (s : State) : Host.Outcome State Fault Refusal := .next (incLoc (.reg .a) s)

/-- DEC A (R479). -/
def execDecA (s : State) : Host.Outcome State Fault Refusal := .next (decLoc (.reg .a) s)

/-- CCF (R484). -/
def execCcf (s : State) : Host.Outcome State Fault Refusal := .next (complementCarry s)

/-- ADD A,B (R453). -/
def execAddAB (s : State) : Host.Outcome State Fault Refusal := .next (aluOn .add (.loc (.reg .b)) s)

/-- ADD A,C (R453). -/
def execAddAC (s : State) : Host.Outcome State Fault Refusal := .next (aluOn .add (.loc (.reg .c)) s)

/-- ADD A,D (R453). -/
def execAddAD (s : State) : Host.Outcome State Fault Refusal := .next (aluOn .add (.loc (.reg .d)) s)

/-- ADD A,E (R453). -/
def execAddAE (s : State) : Host.Outcome State Fault Refusal := .next (aluOn .add (.loc (.reg .e)) s)

/-- ADD A,H (R453). -/
def execAddAH (s : State) : Host.Outcome State Fault Refusal := .next (aluOn .add (.loc (.reg .h)) s)

/-- ADD A,L (R453). -/
def execAddAL (s : State) : Host.Outcome State Fault Refusal := .next (aluOn .add (.loc (.reg .l)) s)

/-- ADD A,(HL) (R454). -/
def execAddAAtHl (s : State) : Host.Outcome State Fault Refusal := .next (aluOn .add (.loc .atHl) s)

/-- ADD A,A (R453). -/
def execAddAA (s : State) : Host.Outcome State Fault Refusal := .next (aluOn .add (.loc (.reg .a)) s)

/-- ADC A,B (R456). -/
def execAdcAB (s : State) : Host.Outcome State Fault Refusal := .next (aluOn .adc (.loc (.reg .b)) s)

/-- ADC A,C (R456). -/
def execAdcAC (s : State) : Host.Outcome State Fault Refusal := .next (aluOn .adc (.loc (.reg .c)) s)

/-- ADC A,D (R456). -/
def execAdcAD (s : State) : Host.Outcome State Fault Refusal := .next (aluOn .adc (.loc (.reg .d)) s)

/-- ADC A,E (R456). -/
def execAdcAE (s : State) : Host.Outcome State Fault Refusal := .next (aluOn .adc (.loc (.reg .e)) s)

/-- ADC A,H (R456). -/
def execAdcAH (s : State) : Host.Outcome State Fault Refusal := .next (aluOn .adc (.loc (.reg .h)) s)

/-- ADC A,L (R456). -/
def execAdcAL (s : State) : Host.Outcome State Fault Refusal := .next (aluOn .adc (.loc (.reg .l)) s)

/-- ADC A,(HL) (R457). -/
def execAdcAAtHl (s : State) : Host.Outcome State Fault Refusal := .next (aluOn .adc (.loc .atHl) s)

/-- ADC A,A (R456). -/
def execAdcAA (s : State) : Host.Outcome State Fault Refusal := .next (aluOn .adc (.loc (.reg .a)) s)

/-- SUB B (R459). -/
def execSubB (s : State) : Host.Outcome State Fault Refusal := .next (aluOn .sub (.loc (.reg .b)) s)

/-- SUB C (R459). -/
def execSubC (s : State) : Host.Outcome State Fault Refusal := .next (aluOn .sub (.loc (.reg .c)) s)

/-- SUB D (R459). -/
def execSubD (s : State) : Host.Outcome State Fault Refusal := .next (aluOn .sub (.loc (.reg .d)) s)

/-- SUB E (R459). -/
def execSubE (s : State) : Host.Outcome State Fault Refusal := .next (aluOn .sub (.loc (.reg .e)) s)

/-- SUB H (R459). -/
def execSubH (s : State) : Host.Outcome State Fault Refusal := .next (aluOn .sub (.loc (.reg .h)) s)

/-- SUB L (R459). -/
def execSubL (s : State) : Host.Outcome State Fault Refusal := .next (aluOn .sub (.loc (.reg .l)) s)

/-- SUB (HL) (R460). -/
def execSubAtHl (s : State) : Host.Outcome State Fault Refusal := .next (aluOn .sub (.loc .atHl) s)

/-- SUB A (R459). -/
def execSubA (s : State) : Host.Outcome State Fault Refusal := .next (aluOn .sub (.loc (.reg .a)) s)

/-- SBC A,B (R462). -/
def execSbcAB (s : State) : Host.Outcome State Fault Refusal := .next (aluOn .sbc (.loc (.reg .b)) s)

/-- SBC A,C (R462). -/
def execSbcAC (s : State) : Host.Outcome State Fault Refusal := .next (aluOn .sbc (.loc (.reg .c)) s)

/-- SBC A,D (R462). -/
def execSbcAD (s : State) : Host.Outcome State Fault Refusal := .next (aluOn .sbc (.loc (.reg .d)) s)

/-- SBC A,E (R462). -/
def execSbcAE (s : State) : Host.Outcome State Fault Refusal := .next (aluOn .sbc (.loc (.reg .e)) s)

/-- SBC A,H (R462). -/
def execSbcAH (s : State) : Host.Outcome State Fault Refusal := .next (aluOn .sbc (.loc (.reg .h)) s)

/-- SBC A,L (R462). -/
def execSbcAL (s : State) : Host.Outcome State Fault Refusal := .next (aluOn .sbc (.loc (.reg .l)) s)

/-- SBC A,(HL) (R463). -/
def execSbcAAtHl (s : State) : Host.Outcome State Fault Refusal := .next (aluOn .sbc (.loc .atHl) s)

/-- SBC A,A (R462). -/
def execSbcAA (s : State) : Host.Outcome State Fault Refusal := .next (aluOn .sbc (.loc (.reg .a)) s)

/-- AND B (R465). -/
def execAndB (s : State) : Host.Outcome State Fault Refusal := .next (aluOn .and (.loc (.reg .b)) s)

/-- AND C (R465). -/
def execAndC (s : State) : Host.Outcome State Fault Refusal := .next (aluOn .and (.loc (.reg .c)) s)

/-- AND D (R465). -/
def execAndD (s : State) : Host.Outcome State Fault Refusal := .next (aluOn .and (.loc (.reg .d)) s)

/-- AND E (R465). -/
def execAndE (s : State) : Host.Outcome State Fault Refusal := .next (aluOn .and (.loc (.reg .e)) s)

/-- AND H (R465). -/
def execAndH (s : State) : Host.Outcome State Fault Refusal := .next (aluOn .and (.loc (.reg .h)) s)

/-- AND L (R465). -/
def execAndL (s : State) : Host.Outcome State Fault Refusal := .next (aluOn .and (.loc (.reg .l)) s)

/-- AND (HL) (R466). -/
def execAndAtHl (s : State) : Host.Outcome State Fault Refusal := .next (aluOn .and (.loc .atHl) s)

/-- AND A (R465). -/
def execAndA (s : State) : Host.Outcome State Fault Refusal := .next (aluOn .and (.loc (.reg .a)) s)

/-- XOR B (R468). -/
def execXorB (s : State) : Host.Outcome State Fault Refusal := .next (aluOn .xor (.loc (.reg .b)) s)

/-- XOR C (R468). -/
def execXorC (s : State) : Host.Outcome State Fault Refusal := .next (aluOn .xor (.loc (.reg .c)) s)

/-- XOR D (R468). -/
def execXorD (s : State) : Host.Outcome State Fault Refusal := .next (aluOn .xor (.loc (.reg .d)) s)

/-- XOR E (R468). -/
def execXorE (s : State) : Host.Outcome State Fault Refusal := .next (aluOn .xor (.loc (.reg .e)) s)

/-- XOR H (R468). -/
def execXorH (s : State) : Host.Outcome State Fault Refusal := .next (aluOn .xor (.loc (.reg .h)) s)

/-- XOR L (R468). -/
def execXorL (s : State) : Host.Outcome State Fault Refusal := .next (aluOn .xor (.loc (.reg .l)) s)

/-- XOR (HL) (R469). -/
def execXorAtHl (s : State) : Host.Outcome State Fault Refusal := .next (aluOn .xor (.loc .atHl) s)

/-- XOR A (R468). -/
def execXorA (s : State) : Host.Outcome State Fault Refusal := .next (aluOn .xor (.loc (.reg .a)) s)

/-- OR B (R471). -/
def execOrB (s : State) : Host.Outcome State Fault Refusal := .next (aluOn .or (.loc (.reg .b)) s)

/-- OR C (R471). -/
def execOrC (s : State) : Host.Outcome State Fault Refusal := .next (aluOn .or (.loc (.reg .c)) s)

/-- OR D (R471). -/
def execOrD (s : State) : Host.Outcome State Fault Refusal := .next (aluOn .or (.loc (.reg .d)) s)

/-- OR E (R471). -/
def execOrE (s : State) : Host.Outcome State Fault Refusal := .next (aluOn .or (.loc (.reg .e)) s)

/-- OR H (R471). -/
def execOrH (s : State) : Host.Outcome State Fault Refusal := .next (aluOn .or (.loc (.reg .h)) s)

/-- OR L (R471). -/
def execOrL (s : State) : Host.Outcome State Fault Refusal := .next (aluOn .or (.loc (.reg .l)) s)

/-- OR (HL) (R472). -/
def execOrAtHl (s : State) : Host.Outcome State Fault Refusal := .next (aluOn .or (.loc .atHl) s)

/-- OR A (R471). -/
def execOrA (s : State) : Host.Outcome State Fault Refusal := .next (aluOn .or (.loc (.reg .a)) s)

/-- CP B (R474). -/
def execCpB (s : State) : Host.Outcome State Fault Refusal := .next (aluOn .cp (.loc (.reg .b)) s)

/-- CP C (R474). -/
def execCpC (s : State) : Host.Outcome State Fault Refusal := .next (aluOn .cp (.loc (.reg .c)) s)

/-- CP D (R474). -/
def execCpD (s : State) : Host.Outcome State Fault Refusal := .next (aluOn .cp (.loc (.reg .d)) s)

/-- CP E (R474). -/
def execCpE (s : State) : Host.Outcome State Fault Refusal := .next (aluOn .cp (.loc (.reg .e)) s)

/-- CP H (R474). -/
def execCpH (s : State) : Host.Outcome State Fault Refusal := .next (aluOn .cp (.loc (.reg .h)) s)

/-- CP L (R474). -/
def execCpL (s : State) : Host.Outcome State Fault Refusal := .next (aluOn .cp (.loc (.reg .l)) s)

/-- CP (HL) (R475). -/
def execCpAtHl (s : State) : Host.Outcome State Fault Refusal := .next (aluOn .cp (.loc .atHl) s)

/-- CP A (R474). -/
def execCpA (s : State) : Host.Outcome State Fault Refusal := .next (aluOn .cp (.loc (.reg .a)) s)

/-- ADD A,d8 (R455). -/
def execAddAD8 (d8 : Byte) (s : State) : Host.Outcome State Fault Refusal := .next (aluOn .add (.imm d8) s)

/-- ADC A,d8 (R458). -/
def execAdcAD8 (d8 : Byte) (s : State) : Host.Outcome State Fault Refusal := .next (aluOn .adc (.imm d8) s)

/-- SUB d8 (R461). -/
def execSubD8 (d8 : Byte) (s : State) : Host.Outcome State Fault Refusal := .next (aluOn .sub (.imm d8) s)

/-- SBC A,d8 (R464). -/
def execSbcAD8 (d8 : Byte) (s : State) : Host.Outcome State Fault Refusal := .next (aluOn .sbc (.imm d8) s)

/-- AND d8 (R467). -/
def execAndD8 (d8 : Byte) (s : State) : Host.Outcome State Fault Refusal := .next (aluOn .and (.imm d8) s)

/-- XOR d8 (R470). -/
def execXorD8 (d8 : Byte) (s : State) : Host.Outcome State Fault Refusal := .next (aluOn .xor (.imm d8) s)

/-- OR d8 (R473). -/
def execOrD8 (d8 : Byte) (s : State) : Host.Outcome State Fault Refusal := .next (aluOn .or (.imm d8) s)

/-- CP d8 (R476). -/
def execCpD8 (d8 : Byte) (s : State) : Host.Outcome State Fault Refusal := .next (aluOn .cp (.imm d8) s)

end Sys2Proof.Machine
end

