-- ==== Sys2Proof/Machine/Control.lean ====
section
/-! DEFINITION. Jumps, calls, returns and restarts (44_control.md R571 to R581). PC holds the address after the instruction. -/

namespace Sys2Proof.Machine

/-- A conditional effect: `f` where the condition holds, nothing otherwise (R570). -/
def whenCond (cc : Cond) (f : State → State) (s : State) : State := if condHolds cc s then f s else s

/-- JP cc,a16 (R572). -/
def jumpIf (cc : Cond) (a16 : Word) (s : State) : State := whenCond cc (setPc a16) s

/-- JR e8 (R574). -/
def jumpRel (e8 : Byte) (s : State) : State := setPc (relTarget s e8) s

/-- JR cc,e8 (R575). -/
def jumpRelIf (cc : Cond) (e8 : Byte) (s : State) : State := whenCond cc (jumpRel e8) s

/-- CALL a16 (R576), and RST with its fixed target (R581). -/
def call (target : Word) (s : State) : State := setPc target (push16 s.cpu.pc s)

/-- CALL cc,a16 (R577). -/
def callIf (cc : Cond) (a16 : Word) (s : State) : State := whenCond cc (call a16) s

/-- RET (R578). -/
def ret (s : State) : State := setPc (popValue s) (popState s)

/-- RET cc (R579). -/
def retIf (cc : Cond) (s : State) : State := whenCond cc ret s

/-- JR e8 (R574). -/
def execJrE8 (e8 : Byte) (s : State) : Host.Outcome State Fault Refusal := .next (jumpRel e8 s)

/-- JR NZ,e8 (R575). -/
def execJrNzE8 (e8 : Byte) (s : State) : Host.Outcome State Fault Refusal := .next (jumpRelIf .nz e8 s)

/-- JR Z,e8 (R575). -/
def execJrZE8 (e8 : Byte) (s : State) : Host.Outcome State Fault Refusal := .next (jumpRelIf .z e8 s)

/-- JR NC,e8 (R575). -/
def execJrNcE8 (e8 : Byte) (s : State) : Host.Outcome State Fault Refusal := .next (jumpRelIf .nc e8 s)

/-- JR C,e8 (R575). -/
def execJrCE8 (e8 : Byte) (s : State) : Host.Outcome State Fault Refusal := .next (jumpRelIf .c e8 s)

/-- RET NZ (R579). -/
def execRetNz (s : State) : Host.Outcome State Fault Refusal := .next (retIf .nz s)

/-- JP NZ,a16 (R572). -/
def execJpNzA16 (a16 : Word) (s : State) : Host.Outcome State Fault Refusal := .next (jumpIf .nz a16 s)

/-- JP a16 (R571). -/
def execJpA16 (a16 : Word) (s : State) : Host.Outcome State Fault Refusal := .next (setPc a16 s)

/-- CALL NZ,a16 (R577). -/
def execCallNzA16 (a16 : Word) (s : State) : Host.Outcome State Fault Refusal := .next (callIf .nz a16 s)

/-- RST 0x00 (R581). -/
def execRst00 (s : State) : Host.Outcome State Fault Refusal := .next (call 0x00 s)

/-- RET Z (R579). -/
def execRetZ (s : State) : Host.Outcome State Fault Refusal := .next (retIf .z s)

/-- RET (R578). -/
def execRet (s : State) : Host.Outcome State Fault Refusal := .next (ret s)

/-- JP Z,a16 (R572). -/
def execJpZA16 (a16 : Word) (s : State) : Host.Outcome State Fault Refusal := .next (jumpIf .z a16 s)

/-- CALL Z,a16 (R577). -/
def execCallZA16 (a16 : Word) (s : State) : Host.Outcome State Fault Refusal := .next (callIf .z a16 s)

/-- CALL a16 (R576). -/
def execCallA16 (a16 : Word) (s : State) : Host.Outcome State Fault Refusal := .next (call a16 s)

/-- RST 0x08 (R581). -/
def execRst08 (s : State) : Host.Outcome State Fault Refusal := .next (call 0x08 s)

/-- RET NC (R579). -/
def execRetNc (s : State) : Host.Outcome State Fault Refusal := .next (retIf .nc s)

/-- JP NC,a16 (R572). -/
def execJpNcA16 (a16 : Word) (s : State) : Host.Outcome State Fault Refusal := .next (jumpIf .nc a16 s)

/-- CALL NC,a16 (R577). -/
def execCallNcA16 (a16 : Word) (s : State) : Host.Outcome State Fault Refusal := .next (callIf .nc a16 s)

/-- RST 0x10 (R581). -/
def execRst10 (s : State) : Host.Outcome State Fault Refusal := .next (call 0x10 s)

/-- RET C (R579). -/
def execRetC (s : State) : Host.Outcome State Fault Refusal := .next (retIf .c s)

/-- RETI (R580). -/
def execReti (s : State) : Host.Outcome State Fault Refusal := .next (returnFromInterrupt s)

/-- JP C,a16 (R572). -/
def execJpCA16 (a16 : Word) (s : State) : Host.Outcome State Fault Refusal := .next (jumpIf .c a16 s)

/-- CALL C,a16 (R577). -/
def execCallCA16 (a16 : Word) (s : State) : Host.Outcome State Fault Refusal := .next (callIf .c a16 s)

/-- RST 0x18 (R581). -/
def execRst18 (s : State) : Host.Outcome State Fault Refusal := .next (call 0x18 s)

/-- RST 0x20 (R581). -/
def execRst20 (s : State) : Host.Outcome State Fault Refusal := .next (call 0x20 s)

/-- JP HL (R573). -/
def execJpHl (s : State) : Host.Outcome State Fault Refusal := .next (setPc (hl s) s)

/-- RST 0x28 (R581). -/
def execRst28 (s : State) : Host.Outcome State Fault Refusal := .next (call 0x28 s)

/-- RST 0x30 (R581). -/
def execRst30 (s : State) : Host.Outcome State Fault Refusal := .next (call 0x30 s)

/-- RST 0x38 (R581). -/
def execRst38 (s : State) : Host.Outcome State Fault Refusal := .next (call 0x38 s)

end Sys2Proof.Machine
end

