-- ==== Sys2Proof/Machine/Loads.lean ====
section
/-! DEFINITION. Loads, stores and stack transfers (40_loads.md R402 to R427). No one of them writes a flag but POP AF. -/

namespace Sys2Proof.Machine

/-- LD between 8-bit operands (R402 to R406). -/
def load (dst : Loc8) (src : Src8) (s : State) : State := writeLoc dst (readSrc s src) s

/-- LD A from an address (R407, R408, R411, R413, R415). -/
def loadA (addr : Word) (s : State) : State := setReg8 .a (read8 s addr) s

/-- LD of A to an address (R409, R410, R412, R414, R416). -/
def storeA (addr : Word) (s : State) : State := write8 addr s.cpu.a s

/-- LD A,(HL+) and LD A,(HL-) (R419, R420): HL then moves by `delta`. -/
def loadAStep (delta : Word) (s : State) : State :=
  let t := loadA (hl s) s
  setHl (hl t + delta) t

/-- LD (HL+),A and LD (HL-),A (R417, R418): HL then moves by `delta`. -/
def storeAStep (delta : Word) (s : State) : State :=
  let t := storeA (hl s) s
  setHl (hl t + delta) t

/-- LD rr,d16 (R421). -/
def loadPair (p : R16) (d16 : Word) (s : State) : State := setReg16 p d16 s

/-- PUSH (R424, R425). -/
def pushPair (p : R16Stack) (s : State) : State := push16 (stackReg s p) s

/-- POP (R426, R427). -/
def popPair (p : R16Stack) (s : State) : State := setStackReg p (popValue s) (popState s)

/-- LD BC,d16 (R421). -/
def execLdBcD16 (d16 : Word) (s : State) : Host.Outcome State Fault Refusal := .next (loadPair .bc d16 s)

/-- LD (BC),A (R409). -/
def execLdAtBcA (s : State) : Host.Outcome State Fault Refusal := .next (storeA (bc s) s)

/-- LD B,d8 (R403). -/
def execLdBD8 (d8 : Byte) (s : State) : Host.Outcome State Fault Refusal := .next (load (.reg .b) (.imm d8) s)

/-- LD (a16),SP (R423). -/
def execLdAtA16Sp (a16 : Word) (s : State) : Host.Outcome State Fault Refusal := .next (write16 a16 s.cpu.sp s)

/-- LD A,(BC) (R407). -/
def execLdAAtBc (s : State) : Host.Outcome State Fault Refusal := .next (loadA (bc s) s)

/-- LD C,d8 (R403). -/
def execLdCD8 (d8 : Byte) (s : State) : Host.Outcome State Fault Refusal := .next (load (.reg .c) (.imm d8) s)

/-- LD DE,d16 (R421). -/
def execLdDeD16 (d16 : Word) (s : State) : Host.Outcome State Fault Refusal := .next (loadPair .de d16 s)

/-- LD (DE),A (R410). -/
def execLdAtDeA (s : State) : Host.Outcome State Fault Refusal := .next (storeA (de s) s)

/-- LD D,d8 (R403). -/
def execLdDD8 (d8 : Byte) (s : State) : Host.Outcome State Fault Refusal := .next (load (.reg .d) (.imm d8) s)

/-- LD A,(DE) (R408). -/
def execLdAAtDe (s : State) : Host.Outcome State Fault Refusal := .next (loadA (de s) s)

/-- LD E,d8 (R403). -/
def execLdED8 (d8 : Byte) (s : State) : Host.Outcome State Fault Refusal := .next (load (.reg .e) (.imm d8) s)

/-- LD HL,d16 (R421). -/
def execLdHlD16 (d16 : Word) (s : State) : Host.Outcome State Fault Refusal := .next (loadPair .hl d16 s)

/-- LD (HL+),A (R417). -/
def execLdAtHliA (s : State) : Host.Outcome State Fault Refusal := .next (storeAStep 1 s)

/-- LD H,d8 (R403). -/
def execLdHD8 (d8 : Byte) (s : State) : Host.Outcome State Fault Refusal := .next (load (.reg .h) (.imm d8) s)

/-- LD A,(HL+) (R419). -/
def execLdAAtHli (s : State) : Host.Outcome State Fault Refusal := .next (loadAStep 1 s)

/-- LD L,d8 (R403). -/
def execLdLD8 (d8 : Byte) (s : State) : Host.Outcome State Fault Refusal := .next (load (.reg .l) (.imm d8) s)

/-- LD SP,d16 (R421). -/
def execLdSpD16 (d16 : Word) (s : State) : Host.Outcome State Fault Refusal := .next (loadPair .sp d16 s)

/-- LD (HL-),A (R418). -/
def execLdAtHldA (s : State) : Host.Outcome State Fault Refusal := .next (storeAStep (-1) s)

/-- LD (HL),d8 (R406). -/
def execLdAtHlD8 (d8 : Byte) (s : State) : Host.Outcome State Fault Refusal := .next (load .atHl (.imm d8) s)

/-- LD A,(HL-) (R420). -/
def execLdAAtHld (s : State) : Host.Outcome State Fault Refusal := .next (loadAStep (-1) s)

/-- LD A,d8 (R403). -/
def execLdAD8 (d8 : Byte) (s : State) : Host.Outcome State Fault Refusal := .next (load (.reg .a) (.imm d8) s)

/-- LD B,B (R402). -/
def execLdBB (s : State) : Host.Outcome State Fault Refusal := .next (load (.reg .b) (.loc (.reg .b)) s)

/-- LD B,C (R402). -/
def execLdBC (s : State) : Host.Outcome State Fault Refusal := .next (load (.reg .b) (.loc (.reg .c)) s)

/-- LD B,D (R402). -/
def execLdBD (s : State) : Host.Outcome State Fault Refusal := .next (load (.reg .b) (.loc (.reg .d)) s)

/-- LD B,E (R402). -/
def execLdBE (s : State) : Host.Outcome State Fault Refusal := .next (load (.reg .b) (.loc (.reg .e)) s)

/-- LD B,H (R402). -/
def execLdBH (s : State) : Host.Outcome State Fault Refusal := .next (load (.reg .b) (.loc (.reg .h)) s)

/-- LD B,L (R402). -/
def execLdBL (s : State) : Host.Outcome State Fault Refusal := .next (load (.reg .b) (.loc (.reg .l)) s)

/-- LD B,(HL) (R404). -/
def execLdBAtHl (s : State) : Host.Outcome State Fault Refusal := .next (load (.reg .b) (.loc .atHl) s)

/-- LD B,A (R402). -/
def execLdBA (s : State) : Host.Outcome State Fault Refusal := .next (load (.reg .b) (.loc (.reg .a)) s)

/-- LD C,B (R402). -/
def execLdCB (s : State) : Host.Outcome State Fault Refusal := .next (load (.reg .c) (.loc (.reg .b)) s)

/-- LD C,C (R402). -/
def execLdCC (s : State) : Host.Outcome State Fault Refusal := .next (load (.reg .c) (.loc (.reg .c)) s)

/-- LD C,D (R402). -/
def execLdCD (s : State) : Host.Outcome State Fault Refusal := .next (load (.reg .c) (.loc (.reg .d)) s)

/-- LD C,E (R402). -/
def execLdCE (s : State) : Host.Outcome State Fault Refusal := .next (load (.reg .c) (.loc (.reg .e)) s)

/-- LD C,H (R402). -/
def execLdCH (s : State) : Host.Outcome State Fault Refusal := .next (load (.reg .c) (.loc (.reg .h)) s)

/-- LD C,L (R402). -/
def execLdCL (s : State) : Host.Outcome State Fault Refusal := .next (load (.reg .c) (.loc (.reg .l)) s)

/-- LD C,(HL) (R404). -/
def execLdCAtHl (s : State) : Host.Outcome State Fault Refusal := .next (load (.reg .c) (.loc .atHl) s)

/-- LD C,A (R402). -/
def execLdCA (s : State) : Host.Outcome State Fault Refusal := .next (load (.reg .c) (.loc (.reg .a)) s)

/-- LD D,B (R402). -/
def execLdDB (s : State) : Host.Outcome State Fault Refusal := .next (load (.reg .d) (.loc (.reg .b)) s)

/-- LD D,C (R402). -/
def execLdDC (s : State) : Host.Outcome State Fault Refusal := .next (load (.reg .d) (.loc (.reg .c)) s)

/-- LD D,D (R402). -/
def execLdDD (s : State) : Host.Outcome State Fault Refusal := .next (load (.reg .d) (.loc (.reg .d)) s)

/-- LD D,E (R402). -/
def execLdDE (s : State) : Host.Outcome State Fault Refusal := .next (load (.reg .d) (.loc (.reg .e)) s)

/-- LD D,H (R402). -/
def execLdDH (s : State) : Host.Outcome State Fault Refusal := .next (load (.reg .d) (.loc (.reg .h)) s)

/-- LD D,L (R402). -/
def execLdDL (s : State) : Host.Outcome State Fault Refusal := .next (load (.reg .d) (.loc (.reg .l)) s)

/-- LD D,(HL) (R404). -/
def execLdDAtHl (s : State) : Host.Outcome State Fault Refusal := .next (load (.reg .d) (.loc .atHl) s)

/-- LD D,A (R402). -/
def execLdDA (s : State) : Host.Outcome State Fault Refusal := .next (load (.reg .d) (.loc (.reg .a)) s)

/-- LD E,B (R402). -/
def execLdEB (s : State) : Host.Outcome State Fault Refusal := .next (load (.reg .e) (.loc (.reg .b)) s)

/-- LD E,C (R402). -/
def execLdEC (s : State) : Host.Outcome State Fault Refusal := .next (load (.reg .e) (.loc (.reg .c)) s)

/-- LD E,D (R402). -/
def execLdED (s : State) : Host.Outcome State Fault Refusal := .next (load (.reg .e) (.loc (.reg .d)) s)

/-- LD E,E (R402). -/
def execLdEE (s : State) : Host.Outcome State Fault Refusal := .next (load (.reg .e) (.loc (.reg .e)) s)

/-- LD E,H (R402). -/
def execLdEH (s : State) : Host.Outcome State Fault Refusal := .next (load (.reg .e) (.loc (.reg .h)) s)

/-- LD E,L (R402). -/
def execLdEL (s : State) : Host.Outcome State Fault Refusal := .next (load (.reg .e) (.loc (.reg .l)) s)

/-- LD E,(HL) (R404). -/
def execLdEAtHl (s : State) : Host.Outcome State Fault Refusal := .next (load (.reg .e) (.loc .atHl) s)

/-- LD E,A (R402). -/
def execLdEA (s : State) : Host.Outcome State Fault Refusal := .next (load (.reg .e) (.loc (.reg .a)) s)

/-- LD H,B (R402). -/
def execLdHB (s : State) : Host.Outcome State Fault Refusal := .next (load (.reg .h) (.loc (.reg .b)) s)

/-- LD H,C (R402). -/
def execLdHC (s : State) : Host.Outcome State Fault Refusal := .next (load (.reg .h) (.loc (.reg .c)) s)

/-- LD H,D (R402). -/
def execLdHD (s : State) : Host.Outcome State Fault Refusal := .next (load (.reg .h) (.loc (.reg .d)) s)

/-- LD H,E (R402). -/
def execLdHE (s : State) : Host.Outcome State Fault Refusal := .next (load (.reg .h) (.loc (.reg .e)) s)

/-- LD H,H (R402). -/
def execLdHH (s : State) : Host.Outcome State Fault Refusal := .next (load (.reg .h) (.loc (.reg .h)) s)

/-- LD H,L (R402). -/
def execLdHL (s : State) : Host.Outcome State Fault Refusal := .next (load (.reg .h) (.loc (.reg .l)) s)

/-- LD H,(HL) (R404). -/
def execLdHAtHl (s : State) : Host.Outcome State Fault Refusal := .next (load (.reg .h) (.loc .atHl) s)

/-- LD H,A (R402). -/
def execLdHA (s : State) : Host.Outcome State Fault Refusal := .next (load (.reg .h) (.loc (.reg .a)) s)

/-- LD L,B (R402). -/
def execLdLB (s : State) : Host.Outcome State Fault Refusal := .next (load (.reg .l) (.loc (.reg .b)) s)

/-- LD L,C (R402). -/
def execLdLC (s : State) : Host.Outcome State Fault Refusal := .next (load (.reg .l) (.loc (.reg .c)) s)

/-- LD L,D (R402). -/
def execLdLD (s : State) : Host.Outcome State Fault Refusal := .next (load (.reg .l) (.loc (.reg .d)) s)

/-- LD L,E (R402). -/
def execLdLE (s : State) : Host.Outcome State Fault Refusal := .next (load (.reg .l) (.loc (.reg .e)) s)

/-- LD L,H (R402). -/
def execLdLH (s : State) : Host.Outcome State Fault Refusal := .next (load (.reg .l) (.loc (.reg .h)) s)

/-- LD L,L (R402). -/
def execLdLL (s : State) : Host.Outcome State Fault Refusal := .next (load (.reg .l) (.loc (.reg .l)) s)

/-- LD L,(HL) (R404). -/
def execLdLAtHl (s : State) : Host.Outcome State Fault Refusal := .next (load (.reg .l) (.loc .atHl) s)

/-- LD L,A (R402). -/
def execLdLA (s : State) : Host.Outcome State Fault Refusal := .next (load (.reg .l) (.loc (.reg .a)) s)

/-- LD (HL),B (R405). -/
def execLdAtHlB (s : State) : Host.Outcome State Fault Refusal := .next (load .atHl (.loc (.reg .b)) s)

/-- LD (HL),C (R405). -/
def execLdAtHlC (s : State) : Host.Outcome State Fault Refusal := .next (load .atHl (.loc (.reg .c)) s)

/-- LD (HL),D (R405). -/
def execLdAtHlD (s : State) : Host.Outcome State Fault Refusal := .next (load .atHl (.loc (.reg .d)) s)

/-- LD (HL),E (R405). -/
def execLdAtHlE (s : State) : Host.Outcome State Fault Refusal := .next (load .atHl (.loc (.reg .e)) s)

/-- LD (HL),H (R405). -/
def execLdAtHlH (s : State) : Host.Outcome State Fault Refusal := .next (load .atHl (.loc (.reg .h)) s)

/-- LD (HL),L (R405). -/
def execLdAtHlL (s : State) : Host.Outcome State Fault Refusal := .next (load .atHl (.loc (.reg .l)) s)

/-- LD (HL),A (R405). -/
def execLdAtHlA (s : State) : Host.Outcome State Fault Refusal := .next (load .atHl (.loc (.reg .a)) s)

/-- LD A,B (R402). -/
def execLdAB (s : State) : Host.Outcome State Fault Refusal := .next (load (.reg .a) (.loc (.reg .b)) s)

/-- LD A,C (R402). -/
def execLdAC (s : State) : Host.Outcome State Fault Refusal := .next (load (.reg .a) (.loc (.reg .c)) s)

/-- LD A,D (R402). -/
def execLdAD (s : State) : Host.Outcome State Fault Refusal := .next (load (.reg .a) (.loc (.reg .d)) s)

/-- LD A,E (R402). -/
def execLdAE (s : State) : Host.Outcome State Fault Refusal := .next (load (.reg .a) (.loc (.reg .e)) s)

/-- LD A,H (R402). -/
def execLdAH (s : State) : Host.Outcome State Fault Refusal := .next (load (.reg .a) (.loc (.reg .h)) s)

/-- LD A,L (R402). -/
def execLdAL (s : State) : Host.Outcome State Fault Refusal := .next (load (.reg .a) (.loc (.reg .l)) s)

/-- LD A,(HL) (R404). -/
def execLdAAtHl (s : State) : Host.Outcome State Fault Refusal := .next (load (.reg .a) (.loc .atHl) s)

/-- LD A,A (R402). -/
def execLdAA (s : State) : Host.Outcome State Fault Refusal := .next (load (.reg .a) (.loc (.reg .a)) s)

/-- POP BC (R426). -/
def execPopBc (s : State) : Host.Outcome State Fault Refusal := .next (popPair .bc s)

/-- PUSH BC (R424). -/
def execPushBc (s : State) : Host.Outcome State Fault Refusal := .next (pushPair .bc s)

/-- POP DE (R426). -/
def execPopDe (s : State) : Host.Outcome State Fault Refusal := .next (popPair .de s)

/-- PUSH DE (R424). -/
def execPushDe (s : State) : Host.Outcome State Fault Refusal := .next (pushPair .de s)

/-- LDH (a8),A (R414). -/
def execLdhAtA8A (a8 : Byte) (s : State) : Host.Outcome State Fault Refusal := .next (storeA (highPage a8) s)

/-- POP HL (R426). -/
def execPopHl (s : State) : Host.Outcome State Fault Refusal := .next (popPair .hl s)

/-- LD (C),A (R416). -/
def execLdAtCA (s : State) : Host.Outcome State Fault Refusal := .next (storeA (highC s) s)

/-- PUSH HL (R424). -/
def execPushHl (s : State) : Host.Outcome State Fault Refusal := .next (pushPair .hl s)

/-- LD (a16),A (R412). -/
def execLdAtA16A (a16 : Word) (s : State) : Host.Outcome State Fault Refusal := .next (storeA a16 s)

/-- LDH A,(a8) (R413). -/
def execLdhAAtA8 (a8 : Byte) (s : State) : Host.Outcome State Fault Refusal := .next (loadA (highPage a8) s)

/-- POP AF (R427). -/
def execPopAf (s : State) : Host.Outcome State Fault Refusal := .next (popPair .af s)

/-- LD A,(C) (R415). -/
def execLdAAtC (s : State) : Host.Outcome State Fault Refusal := .next (loadA (highC s) s)

/-- PUSH AF (R425). -/
def execPushAf (s : State) : Host.Outcome State Fault Refusal := .next (pushPair .af s)

/-- LD SP,HL (R422). -/
def execLdSpHl (s : State) : Host.Outcome State Fault Refusal := .next (setSp (hl s) s)

/-- LD A,(a16) (R411). -/
def execLdAAtA16 (a16 : Word) (s : State) : Host.Outcome State Fault Refusal := .next (loadA a16 s)

end Sys2Proof.Machine
end

