-- ==== Sys2Proof/Machine/Rotate.lean ====
section
/-! DEFINITION. Rotates, shifts and bit operations (43_rotate_shift_bit.md R530 to R556). -/

namespace Sys2Proof.Machine

/-- RLCA, RRCA, RLA, RRA (R530 to R533). -/
def rotateA (op : RotOp) (s : State) : State :=
  let r := rotA8 op s.cpu.a (flagC s)
  setFlags r.fl (setReg8 .a r.res s)

/-- A rotate or shift of the CB table (R535 to R550): the operand is read once and written once. -/
def rotateLoc (op : RotOp) (x : Loc8) (s : State) : State :=
  let r := rot8 op (readLoc s x) (flagC s)
  setFlags r.fl (writeLoc x r.res s)

/-- BIT b (R551, R552): nothing but the flags is written. -/
def testBit (b : Fin 8) (x : Loc8) (s : State) : State := setFlags (bitFlags (readLoc s x) b (flagC s)) s

/-- RES b (R553, R554): the write always happens. -/
def resetBit (b : Fin 8) (x : Loc8) (s : State) : State := writeLoc x (clearBit (readLoc s x) b) s

/-- SET b (R555, R556): the write always happens. -/
def setBitOf (b : Fin 8) (x : Loc8) (s : State) : State := writeLoc x (setBit (readLoc s x) b) s

/-- RLCA (R530). -/
def execRlca (s : State) : Host.Outcome State Fault Refusal := .next (rotateA .rlc s)

/-- RRCA (R531). -/
def execRrca (s : State) : Host.Outcome State Fault Refusal := .next (rotateA .rrc s)

/-- RLA (R532). -/
def execRla (s : State) : Host.Outcome State Fault Refusal := .next (rotateA .rl s)

/-- RRA (R533). -/
def execRra (s : State) : Host.Outcome State Fault Refusal := .next (rotateA .rr s)

/-- RLC B (R535). -/
def execRlcB (s : State) : Host.Outcome State Fault Refusal := .next (rotateLoc .rlc (.reg .b) s)

/-- RLC C (R535). -/
def execRlcC (s : State) : Host.Outcome State Fault Refusal := .next (rotateLoc .rlc (.reg .c) s)

/-- RLC D (R535). -/
def execRlcD (s : State) : Host.Outcome State Fault Refusal := .next (rotateLoc .rlc (.reg .d) s)

/-- RLC E (R535). -/
def execRlcE (s : State) : Host.Outcome State Fault Refusal := .next (rotateLoc .rlc (.reg .e) s)

/-- RLC H (R535). -/
def execRlcH (s : State) : Host.Outcome State Fault Refusal := .next (rotateLoc .rlc (.reg .h) s)

/-- RLC L (R535). -/
def execRlcL (s : State) : Host.Outcome State Fault Refusal := .next (rotateLoc .rlc (.reg .l) s)

/-- RLC (HL) (R536). -/
def execRlcAtHl (s : State) : Host.Outcome State Fault Refusal := .next (rotateLoc .rlc .atHl s)

/-- RLC A (R535). -/
def execRlcA (s : State) : Host.Outcome State Fault Refusal := .next (rotateLoc .rlc (.reg .a) s)

/-- RRC B (R537). -/
def execRrcB (s : State) : Host.Outcome State Fault Refusal := .next (rotateLoc .rrc (.reg .b) s)

/-- RRC C (R537). -/
def execRrcC (s : State) : Host.Outcome State Fault Refusal := .next (rotateLoc .rrc (.reg .c) s)

/-- RRC D (R537). -/
def execRrcD (s : State) : Host.Outcome State Fault Refusal := .next (rotateLoc .rrc (.reg .d) s)

/-- RRC E (R537). -/
def execRrcE (s : State) : Host.Outcome State Fault Refusal := .next (rotateLoc .rrc (.reg .e) s)

/-- RRC H (R537). -/
def execRrcH (s : State) : Host.Outcome State Fault Refusal := .next (rotateLoc .rrc (.reg .h) s)

/-- RRC L (R537). -/
def execRrcL (s : State) : Host.Outcome State Fault Refusal := .next (rotateLoc .rrc (.reg .l) s)

/-- RRC (HL) (R538). -/
def execRrcAtHl (s : State) : Host.Outcome State Fault Refusal := .next (rotateLoc .rrc .atHl s)

/-- RRC A (R537). -/
def execRrcA (s : State) : Host.Outcome State Fault Refusal := .next (rotateLoc .rrc (.reg .a) s)

/-- RL B (R539). -/
def execRlB (s : State) : Host.Outcome State Fault Refusal := .next (rotateLoc .rl (.reg .b) s)

/-- RL C (R539). -/
def execRlC (s : State) : Host.Outcome State Fault Refusal := .next (rotateLoc .rl (.reg .c) s)

/-- RL D (R539). -/
def execRlD (s : State) : Host.Outcome State Fault Refusal := .next (rotateLoc .rl (.reg .d) s)

/-- RL E (R539). -/
def execRlE (s : State) : Host.Outcome State Fault Refusal := .next (rotateLoc .rl (.reg .e) s)

/-- RL H (R539). -/
def execRlH (s : State) : Host.Outcome State Fault Refusal := .next (rotateLoc .rl (.reg .h) s)

/-- RL L (R539). -/
def execRlL (s : State) : Host.Outcome State Fault Refusal := .next (rotateLoc .rl (.reg .l) s)

/-- RL (HL) (R540). -/
def execRlAtHl (s : State) : Host.Outcome State Fault Refusal := .next (rotateLoc .rl .atHl s)

/-- RL A (R539). -/
def execRlA (s : State) : Host.Outcome State Fault Refusal := .next (rotateLoc .rl (.reg .a) s)

/-- RR B (R541). -/
def execRrB (s : State) : Host.Outcome State Fault Refusal := .next (rotateLoc .rr (.reg .b) s)

/-- RR C (R541). -/
def execRrC (s : State) : Host.Outcome State Fault Refusal := .next (rotateLoc .rr (.reg .c) s)

/-- RR D (R541). -/
def execRrD (s : State) : Host.Outcome State Fault Refusal := .next (rotateLoc .rr (.reg .d) s)

/-- RR E (R541). -/
def execRrE (s : State) : Host.Outcome State Fault Refusal := .next (rotateLoc .rr (.reg .e) s)

/-- RR H (R541). -/
def execRrH (s : State) : Host.Outcome State Fault Refusal := .next (rotateLoc .rr (.reg .h) s)

/-- RR L (R541). -/
def execRrL (s : State) : Host.Outcome State Fault Refusal := .next (rotateLoc .rr (.reg .l) s)

/-- RR (HL) (R542). -/
def execRrAtHl (s : State) : Host.Outcome State Fault Refusal := .next (rotateLoc .rr .atHl s)

/-- RR A (R541). -/
def execRrA (s : State) : Host.Outcome State Fault Refusal := .next (rotateLoc .rr (.reg .a) s)

/-- SLA B (R543). -/
def execSlaB (s : State) : Host.Outcome State Fault Refusal := .next (rotateLoc .sla (.reg .b) s)

/-- SLA C (R543). -/
def execSlaC (s : State) : Host.Outcome State Fault Refusal := .next (rotateLoc .sla (.reg .c) s)

/-- SLA D (R543). -/
def execSlaD (s : State) : Host.Outcome State Fault Refusal := .next (rotateLoc .sla (.reg .d) s)

/-- SLA E (R543). -/
def execSlaE (s : State) : Host.Outcome State Fault Refusal := .next (rotateLoc .sla (.reg .e) s)

/-- SLA H (R543). -/
def execSlaH (s : State) : Host.Outcome State Fault Refusal := .next (rotateLoc .sla (.reg .h) s)

/-- SLA L (R543). -/
def execSlaL (s : State) : Host.Outcome State Fault Refusal := .next (rotateLoc .sla (.reg .l) s)

/-- SLA (HL) (R544). -/
def execSlaAtHl (s : State) : Host.Outcome State Fault Refusal := .next (rotateLoc .sla .atHl s)

/-- SLA A (R543). -/
def execSlaA (s : State) : Host.Outcome State Fault Refusal := .next (rotateLoc .sla (.reg .a) s)

/-- SRA B (R545). -/
def execSraB (s : State) : Host.Outcome State Fault Refusal := .next (rotateLoc .sra (.reg .b) s)

/-- SRA C (R545). -/
def execSraC (s : State) : Host.Outcome State Fault Refusal := .next (rotateLoc .sra (.reg .c) s)

/-- SRA D (R545). -/
def execSraD (s : State) : Host.Outcome State Fault Refusal := .next (rotateLoc .sra (.reg .d) s)

/-- SRA E (R545). -/
def execSraE (s : State) : Host.Outcome State Fault Refusal := .next (rotateLoc .sra (.reg .e) s)

/-- SRA H (R545). -/
def execSraH (s : State) : Host.Outcome State Fault Refusal := .next (rotateLoc .sra (.reg .h) s)

/-- SRA L (R545). -/
def execSraL (s : State) : Host.Outcome State Fault Refusal := .next (rotateLoc .sra (.reg .l) s)

/-- SRA (HL) (R546). -/
def execSraAtHl (s : State) : Host.Outcome State Fault Refusal := .next (rotateLoc .sra .atHl s)

/-- SRA A (R545). -/
def execSraA (s : State) : Host.Outcome State Fault Refusal := .next (rotateLoc .sra (.reg .a) s)

/-- SWAP B (R547). -/
def execSwapB (s : State) : Host.Outcome State Fault Refusal := .next (rotateLoc .swap (.reg .b) s)

/-- SWAP C (R547). -/
def execSwapC (s : State) : Host.Outcome State Fault Refusal := .next (rotateLoc .swap (.reg .c) s)

/-- SWAP D (R547). -/
def execSwapD (s : State) : Host.Outcome State Fault Refusal := .next (rotateLoc .swap (.reg .d) s)

/-- SWAP E (R547). -/
def execSwapE (s : State) : Host.Outcome State Fault Refusal := .next (rotateLoc .swap (.reg .e) s)

/-- SWAP H (R547). -/
def execSwapH (s : State) : Host.Outcome State Fault Refusal := .next (rotateLoc .swap (.reg .h) s)

/-- SWAP L (R547). -/
def execSwapL (s : State) : Host.Outcome State Fault Refusal := .next (rotateLoc .swap (.reg .l) s)

/-- SWAP (HL) (R548). -/
def execSwapAtHl (s : State) : Host.Outcome State Fault Refusal := .next (rotateLoc .swap .atHl s)

/-- SWAP A (R547). -/
def execSwapA (s : State) : Host.Outcome State Fault Refusal := .next (rotateLoc .swap (.reg .a) s)

/-- SRL B (R549). -/
def execSrlB (s : State) : Host.Outcome State Fault Refusal := .next (rotateLoc .srl (.reg .b) s)

/-- SRL C (R549). -/
def execSrlC (s : State) : Host.Outcome State Fault Refusal := .next (rotateLoc .srl (.reg .c) s)

/-- SRL D (R549). -/
def execSrlD (s : State) : Host.Outcome State Fault Refusal := .next (rotateLoc .srl (.reg .d) s)

/-- SRL E (R549). -/
def execSrlE (s : State) : Host.Outcome State Fault Refusal := .next (rotateLoc .srl (.reg .e) s)

/-- SRL H (R549). -/
def execSrlH (s : State) : Host.Outcome State Fault Refusal := .next (rotateLoc .srl (.reg .h) s)

/-- SRL L (R549). -/
def execSrlL (s : State) : Host.Outcome State Fault Refusal := .next (rotateLoc .srl (.reg .l) s)

/-- SRL (HL) (R550). -/
def execSrlAtHl (s : State) : Host.Outcome State Fault Refusal := .next (rotateLoc .srl .atHl s)

/-- SRL A (R549). -/
def execSrlA (s : State) : Host.Outcome State Fault Refusal := .next (rotateLoc .srl (.reg .a) s)

/-- BIT 0,B (R551). -/
def execBit0B (s : State) : Host.Outcome State Fault Refusal := .next (testBit 0 (.reg .b) s)

/-- BIT 0,C (R551). -/
def execBit0C (s : State) : Host.Outcome State Fault Refusal := .next (testBit 0 (.reg .c) s)

/-- BIT 0,D (R551). -/
def execBit0D (s : State) : Host.Outcome State Fault Refusal := .next (testBit 0 (.reg .d) s)

/-- BIT 0,E (R551). -/
def execBit0E (s : State) : Host.Outcome State Fault Refusal := .next (testBit 0 (.reg .e) s)

/-- BIT 0,H (R551). -/
def execBit0H (s : State) : Host.Outcome State Fault Refusal := .next (testBit 0 (.reg .h) s)

/-- BIT 0,L (R551). -/
def execBit0L (s : State) : Host.Outcome State Fault Refusal := .next (testBit 0 (.reg .l) s)

/-- BIT 0,(HL) (R552). -/
def execBit0AtHl (s : State) : Host.Outcome State Fault Refusal := .next (testBit 0 .atHl s)

/-- BIT 0,A (R551). -/
def execBit0A (s : State) : Host.Outcome State Fault Refusal := .next (testBit 0 (.reg .a) s)

/-- BIT 1,B (R551). -/
def execBit1B (s : State) : Host.Outcome State Fault Refusal := .next (testBit 1 (.reg .b) s)

/-- BIT 1,C (R551). -/
def execBit1C (s : State) : Host.Outcome State Fault Refusal := .next (testBit 1 (.reg .c) s)

/-- BIT 1,D (R551). -/
def execBit1D (s : State) : Host.Outcome State Fault Refusal := .next (testBit 1 (.reg .d) s)

/-- BIT 1,E (R551). -/
def execBit1E (s : State) : Host.Outcome State Fault Refusal := .next (testBit 1 (.reg .e) s)

/-- BIT 1,H (R551). -/
def execBit1H (s : State) : Host.Outcome State Fault Refusal := .next (testBit 1 (.reg .h) s)

/-- BIT 1,L (R551). -/
def execBit1L (s : State) : Host.Outcome State Fault Refusal := .next (testBit 1 (.reg .l) s)

/-- BIT 1,(HL) (R552). -/
def execBit1AtHl (s : State) : Host.Outcome State Fault Refusal := .next (testBit 1 .atHl s)

/-- BIT 1,A (R551). -/
def execBit1A (s : State) : Host.Outcome State Fault Refusal := .next (testBit 1 (.reg .a) s)

/-- BIT 2,B (R551). -/
def execBit2B (s : State) : Host.Outcome State Fault Refusal := .next (testBit 2 (.reg .b) s)

/-- BIT 2,C (R551). -/
def execBit2C (s : State) : Host.Outcome State Fault Refusal := .next (testBit 2 (.reg .c) s)

/-- BIT 2,D (R551). -/
def execBit2D (s : State) : Host.Outcome State Fault Refusal := .next (testBit 2 (.reg .d) s)

/-- BIT 2,E (R551). -/
def execBit2E (s : State) : Host.Outcome State Fault Refusal := .next (testBit 2 (.reg .e) s)

/-- BIT 2,H (R551). -/
def execBit2H (s : State) : Host.Outcome State Fault Refusal := .next (testBit 2 (.reg .h) s)

/-- BIT 2,L (R551). -/
def execBit2L (s : State) : Host.Outcome State Fault Refusal := .next (testBit 2 (.reg .l) s)

/-- BIT 2,(HL) (R552). -/
def execBit2AtHl (s : State) : Host.Outcome State Fault Refusal := .next (testBit 2 .atHl s)

/-- BIT 2,A (R551). -/
def execBit2A (s : State) : Host.Outcome State Fault Refusal := .next (testBit 2 (.reg .a) s)

/-- BIT 3,B (R551). -/
def execBit3B (s : State) : Host.Outcome State Fault Refusal := .next (testBit 3 (.reg .b) s)

/-- BIT 3,C (R551). -/
def execBit3C (s : State) : Host.Outcome State Fault Refusal := .next (testBit 3 (.reg .c) s)

/-- BIT 3,D (R551). -/
def execBit3D (s : State) : Host.Outcome State Fault Refusal := .next (testBit 3 (.reg .d) s)

/-- BIT 3,E (R551). -/
def execBit3E (s : State) : Host.Outcome State Fault Refusal := .next (testBit 3 (.reg .e) s)

/-- BIT 3,H (R551). -/
def execBit3H (s : State) : Host.Outcome State Fault Refusal := .next (testBit 3 (.reg .h) s)

/-- BIT 3,L (R551). -/
def execBit3L (s : State) : Host.Outcome State Fault Refusal := .next (testBit 3 (.reg .l) s)

/-- BIT 3,(HL) (R552). -/
def execBit3AtHl (s : State) : Host.Outcome State Fault Refusal := .next (testBit 3 .atHl s)

/-- BIT 3,A (R551). -/
def execBit3A (s : State) : Host.Outcome State Fault Refusal := .next (testBit 3 (.reg .a) s)

/-- BIT 4,B (R551). -/
def execBit4B (s : State) : Host.Outcome State Fault Refusal := .next (testBit 4 (.reg .b) s)

/-- BIT 4,C (R551). -/
def execBit4C (s : State) : Host.Outcome State Fault Refusal := .next (testBit 4 (.reg .c) s)

/-- BIT 4,D (R551). -/
def execBit4D (s : State) : Host.Outcome State Fault Refusal := .next (testBit 4 (.reg .d) s)

/-- BIT 4,E (R551). -/
def execBit4E (s : State) : Host.Outcome State Fault Refusal := .next (testBit 4 (.reg .e) s)

/-- BIT 4,H (R551). -/
def execBit4H (s : State) : Host.Outcome State Fault Refusal := .next (testBit 4 (.reg .h) s)

/-- BIT 4,L (R551). -/
def execBit4L (s : State) : Host.Outcome State Fault Refusal := .next (testBit 4 (.reg .l) s)

/-- BIT 4,(HL) (R552). -/
def execBit4AtHl (s : State) : Host.Outcome State Fault Refusal := .next (testBit 4 .atHl s)

/-- BIT 4,A (R551). -/
def execBit4A (s : State) : Host.Outcome State Fault Refusal := .next (testBit 4 (.reg .a) s)

/-- BIT 5,B (R551). -/
def execBit5B (s : State) : Host.Outcome State Fault Refusal := .next (testBit 5 (.reg .b) s)

/-- BIT 5,C (R551). -/
def execBit5C (s : State) : Host.Outcome State Fault Refusal := .next (testBit 5 (.reg .c) s)

/-- BIT 5,D (R551). -/
def execBit5D (s : State) : Host.Outcome State Fault Refusal := .next (testBit 5 (.reg .d) s)

/-- BIT 5,E (R551). -/
def execBit5E (s : State) : Host.Outcome State Fault Refusal := .next (testBit 5 (.reg .e) s)

/-- BIT 5,H (R551). -/
def execBit5H (s : State) : Host.Outcome State Fault Refusal := .next (testBit 5 (.reg .h) s)

/-- BIT 5,L (R551). -/
def execBit5L (s : State) : Host.Outcome State Fault Refusal := .next (testBit 5 (.reg .l) s)

/-- BIT 5,(HL) (R552). -/
def execBit5AtHl (s : State) : Host.Outcome State Fault Refusal := .next (testBit 5 .atHl s)

/-- BIT 5,A (R551). -/
def execBit5A (s : State) : Host.Outcome State Fault Refusal := .next (testBit 5 (.reg .a) s)

/-- BIT 6,B (R551). -/
def execBit6B (s : State) : Host.Outcome State Fault Refusal := .next (testBit 6 (.reg .b) s)

/-- BIT 6,C (R551). -/
def execBit6C (s : State) : Host.Outcome State Fault Refusal := .next (testBit 6 (.reg .c) s)

/-- BIT 6,D (R551). -/
def execBit6D (s : State) : Host.Outcome State Fault Refusal := .next (testBit 6 (.reg .d) s)

/-- BIT 6,E (R551). -/
def execBit6E (s : State) : Host.Outcome State Fault Refusal := .next (testBit 6 (.reg .e) s)

/-- BIT 6,H (R551). -/
def execBit6H (s : State) : Host.Outcome State Fault Refusal := .next (testBit 6 (.reg .h) s)

/-- BIT 6,L (R551). -/
def execBit6L (s : State) : Host.Outcome State Fault Refusal := .next (testBit 6 (.reg .l) s)

/-- BIT 6,(HL) (R552). -/
def execBit6AtHl (s : State) : Host.Outcome State Fault Refusal := .next (testBit 6 .atHl s)

/-- BIT 6,A (R551). -/
def execBit6A (s : State) : Host.Outcome State Fault Refusal := .next (testBit 6 (.reg .a) s)

/-- BIT 7,B (R551). -/
def execBit7B (s : State) : Host.Outcome State Fault Refusal := .next (testBit 7 (.reg .b) s)

/-- BIT 7,C (R551). -/
def execBit7C (s : State) : Host.Outcome State Fault Refusal := .next (testBit 7 (.reg .c) s)

/-- BIT 7,D (R551). -/
def execBit7D (s : State) : Host.Outcome State Fault Refusal := .next (testBit 7 (.reg .d) s)

/-- BIT 7,E (R551). -/
def execBit7E (s : State) : Host.Outcome State Fault Refusal := .next (testBit 7 (.reg .e) s)

/-- BIT 7,H (R551). -/
def execBit7H (s : State) : Host.Outcome State Fault Refusal := .next (testBit 7 (.reg .h) s)

/-- BIT 7,L (R551). -/
def execBit7L (s : State) : Host.Outcome State Fault Refusal := .next (testBit 7 (.reg .l) s)

/-- BIT 7,(HL) (R552). -/
def execBit7AtHl (s : State) : Host.Outcome State Fault Refusal := .next (testBit 7 .atHl s)

/-- BIT 7,A (R551). -/
def execBit7A (s : State) : Host.Outcome State Fault Refusal := .next (testBit 7 (.reg .a) s)

/-- RES 0,B (R553). -/
def execRes0B (s : State) : Host.Outcome State Fault Refusal := .next (resetBit 0 (.reg .b) s)

/-- RES 0,C (R553). -/
def execRes0C (s : State) : Host.Outcome State Fault Refusal := .next (resetBit 0 (.reg .c) s)

/-- RES 0,D (R553). -/
def execRes0D (s : State) : Host.Outcome State Fault Refusal := .next (resetBit 0 (.reg .d) s)

/-- RES 0,E (R553). -/
def execRes0E (s : State) : Host.Outcome State Fault Refusal := .next (resetBit 0 (.reg .e) s)

/-- RES 0,H (R553). -/
def execRes0H (s : State) : Host.Outcome State Fault Refusal := .next (resetBit 0 (.reg .h) s)

/-- RES 0,L (R553). -/
def execRes0L (s : State) : Host.Outcome State Fault Refusal := .next (resetBit 0 (.reg .l) s)

/-- RES 0,(HL) (R554). -/
def execRes0AtHl (s : State) : Host.Outcome State Fault Refusal := .next (resetBit 0 .atHl s)

/-- RES 0,A (R553). -/
def execRes0A (s : State) : Host.Outcome State Fault Refusal := .next (resetBit 0 (.reg .a) s)

/-- RES 1,B (R553). -/
def execRes1B (s : State) : Host.Outcome State Fault Refusal := .next (resetBit 1 (.reg .b) s)

/-- RES 1,C (R553). -/
def execRes1C (s : State) : Host.Outcome State Fault Refusal := .next (resetBit 1 (.reg .c) s)

/-- RES 1,D (R553). -/
def execRes1D (s : State) : Host.Outcome State Fault Refusal := .next (resetBit 1 (.reg .d) s)

/-- RES 1,E (R553). -/
def execRes1E (s : State) : Host.Outcome State Fault Refusal := .next (resetBit 1 (.reg .e) s)

/-- RES 1,H (R553). -/
def execRes1H (s : State) : Host.Outcome State Fault Refusal := .next (resetBit 1 (.reg .h) s)

/-- RES 1,L (R553). -/
def execRes1L (s : State) : Host.Outcome State Fault Refusal := .next (resetBit 1 (.reg .l) s)

/-- RES 1,(HL) (R554). -/
def execRes1AtHl (s : State) : Host.Outcome State Fault Refusal := .next (resetBit 1 .atHl s)

/-- RES 1,A (R553). -/
def execRes1A (s : State) : Host.Outcome State Fault Refusal := .next (resetBit 1 (.reg .a) s)

/-- RES 2,B (R553). -/
def execRes2B (s : State) : Host.Outcome State Fault Refusal := .next (resetBit 2 (.reg .b) s)

/-- RES 2,C (R553). -/
def execRes2C (s : State) : Host.Outcome State Fault Refusal := .next (resetBit 2 (.reg .c) s)

/-- RES 2,D (R553). -/
def execRes2D (s : State) : Host.Outcome State Fault Refusal := .next (resetBit 2 (.reg .d) s)

/-- RES 2,E (R553). -/
def execRes2E (s : State) : Host.Outcome State Fault Refusal := .next (resetBit 2 (.reg .e) s)

/-- RES 2,H (R553). -/
def execRes2H (s : State) : Host.Outcome State Fault Refusal := .next (resetBit 2 (.reg .h) s)

/-- RES 2,L (R553). -/
def execRes2L (s : State) : Host.Outcome State Fault Refusal := .next (resetBit 2 (.reg .l) s)

/-- RES 2,(HL) (R554). -/
def execRes2AtHl (s : State) : Host.Outcome State Fault Refusal := .next (resetBit 2 .atHl s)

/-- RES 2,A (R553). -/
def execRes2A (s : State) : Host.Outcome State Fault Refusal := .next (resetBit 2 (.reg .a) s)

/-- RES 3,B (R553). -/
def execRes3B (s : State) : Host.Outcome State Fault Refusal := .next (resetBit 3 (.reg .b) s)

/-- RES 3,C (R553). -/
def execRes3C (s : State) : Host.Outcome State Fault Refusal := .next (resetBit 3 (.reg .c) s)

/-- RES 3,D (R553). -/
def execRes3D (s : State) : Host.Outcome State Fault Refusal := .next (resetBit 3 (.reg .d) s)

/-- RES 3,E (R553). -/
def execRes3E (s : State) : Host.Outcome State Fault Refusal := .next (resetBit 3 (.reg .e) s)

/-- RES 3,H (R553). -/
def execRes3H (s : State) : Host.Outcome State Fault Refusal := .next (resetBit 3 (.reg .h) s)

/-- RES 3,L (R553). -/
def execRes3L (s : State) : Host.Outcome State Fault Refusal := .next (resetBit 3 (.reg .l) s)

/-- RES 3,(HL) (R554). -/
def execRes3AtHl (s : State) : Host.Outcome State Fault Refusal := .next (resetBit 3 .atHl s)

/-- RES 3,A (R553). -/
def execRes3A (s : State) : Host.Outcome State Fault Refusal := .next (resetBit 3 (.reg .a) s)

/-- RES 4,B (R553). -/
def execRes4B (s : State) : Host.Outcome State Fault Refusal := .next (resetBit 4 (.reg .b) s)

/-- RES 4,C (R553). -/
def execRes4C (s : State) : Host.Outcome State Fault Refusal := .next (resetBit 4 (.reg .c) s)

/-- RES 4,D (R553). -/
def execRes4D (s : State) : Host.Outcome State Fault Refusal := .next (resetBit 4 (.reg .d) s)

/-- RES 4,E (R553). -/
def execRes4E (s : State) : Host.Outcome State Fault Refusal := .next (resetBit 4 (.reg .e) s)

/-- RES 4,H (R553). -/
def execRes4H (s : State) : Host.Outcome State Fault Refusal := .next (resetBit 4 (.reg .h) s)

/-- RES 4,L (R553). -/
def execRes4L (s : State) : Host.Outcome State Fault Refusal := .next (resetBit 4 (.reg .l) s)

/-- RES 4,(HL) (R554). -/
def execRes4AtHl (s : State) : Host.Outcome State Fault Refusal := .next (resetBit 4 .atHl s)

/-- RES 4,A (R553). -/
def execRes4A (s : State) : Host.Outcome State Fault Refusal := .next (resetBit 4 (.reg .a) s)

/-- RES 5,B (R553). -/
def execRes5B (s : State) : Host.Outcome State Fault Refusal := .next (resetBit 5 (.reg .b) s)

/-- RES 5,C (R553). -/
def execRes5C (s : State) : Host.Outcome State Fault Refusal := .next (resetBit 5 (.reg .c) s)

/-- RES 5,D (R553). -/
def execRes5D (s : State) : Host.Outcome State Fault Refusal := .next (resetBit 5 (.reg .d) s)

/-- RES 5,E (R553). -/
def execRes5E (s : State) : Host.Outcome State Fault Refusal := .next (resetBit 5 (.reg .e) s)

/-- RES 5,H (R553). -/
def execRes5H (s : State) : Host.Outcome State Fault Refusal := .next (resetBit 5 (.reg .h) s)

/-- RES 5,L (R553). -/
def execRes5L (s : State) : Host.Outcome State Fault Refusal := .next (resetBit 5 (.reg .l) s)

/-- RES 5,(HL) (R554). -/
def execRes5AtHl (s : State) : Host.Outcome State Fault Refusal := .next (resetBit 5 .atHl s)

/-- RES 5,A (R553). -/
def execRes5A (s : State) : Host.Outcome State Fault Refusal := .next (resetBit 5 (.reg .a) s)

/-- RES 6,B (R553). -/
def execRes6B (s : State) : Host.Outcome State Fault Refusal := .next (resetBit 6 (.reg .b) s)

/-- RES 6,C (R553). -/
def execRes6C (s : State) : Host.Outcome State Fault Refusal := .next (resetBit 6 (.reg .c) s)

/-- RES 6,D (R553). -/
def execRes6D (s : State) : Host.Outcome State Fault Refusal := .next (resetBit 6 (.reg .d) s)

/-- RES 6,E (R553). -/
def execRes6E (s : State) : Host.Outcome State Fault Refusal := .next (resetBit 6 (.reg .e) s)

/-- RES 6,H (R553). -/
def execRes6H (s : State) : Host.Outcome State Fault Refusal := .next (resetBit 6 (.reg .h) s)

/-- RES 6,L (R553). -/
def execRes6L (s : State) : Host.Outcome State Fault Refusal := .next (resetBit 6 (.reg .l) s)

/-- RES 6,(HL) (R554). -/
def execRes6AtHl (s : State) : Host.Outcome State Fault Refusal := .next (resetBit 6 .atHl s)

/-- RES 6,A (R553). -/
def execRes6A (s : State) : Host.Outcome State Fault Refusal := .next (resetBit 6 (.reg .a) s)

/-- RES 7,B (R553). -/
def execRes7B (s : State) : Host.Outcome State Fault Refusal := .next (resetBit 7 (.reg .b) s)

/-- RES 7,C (R553). -/
def execRes7C (s : State) : Host.Outcome State Fault Refusal := .next (resetBit 7 (.reg .c) s)

/-- RES 7,D (R553). -/
def execRes7D (s : State) : Host.Outcome State Fault Refusal := .next (resetBit 7 (.reg .d) s)

/-- RES 7,E (R553). -/
def execRes7E (s : State) : Host.Outcome State Fault Refusal := .next (resetBit 7 (.reg .e) s)

/-- RES 7,H (R553). -/
def execRes7H (s : State) : Host.Outcome State Fault Refusal := .next (resetBit 7 (.reg .h) s)

/-- RES 7,L (R553). -/
def execRes7L (s : State) : Host.Outcome State Fault Refusal := .next (resetBit 7 (.reg .l) s)

/-- RES 7,(HL) (R554). -/
def execRes7AtHl (s : State) : Host.Outcome State Fault Refusal := .next (resetBit 7 .atHl s)

/-- RES 7,A (R553). -/
def execRes7A (s : State) : Host.Outcome State Fault Refusal := .next (resetBit 7 (.reg .a) s)

/-- SET 0,B (R555). -/
def execSet0B (s : State) : Host.Outcome State Fault Refusal := .next (setBitOf 0 (.reg .b) s)

/-- SET 0,C (R555). -/
def execSet0C (s : State) : Host.Outcome State Fault Refusal := .next (setBitOf 0 (.reg .c) s)

/-- SET 0,D (R555). -/
def execSet0D (s : State) : Host.Outcome State Fault Refusal := .next (setBitOf 0 (.reg .d) s)

/-- SET 0,E (R555). -/
def execSet0E (s : State) : Host.Outcome State Fault Refusal := .next (setBitOf 0 (.reg .e) s)

/-- SET 0,H (R555). -/
def execSet0H (s : State) : Host.Outcome State Fault Refusal := .next (setBitOf 0 (.reg .h) s)

/-- SET 0,L (R555). -/
def execSet0L (s : State) : Host.Outcome State Fault Refusal := .next (setBitOf 0 (.reg .l) s)

/-- SET 0,(HL) (R556). -/
def execSet0AtHl (s : State) : Host.Outcome State Fault Refusal := .next (setBitOf 0 .atHl s)

/-- SET 0,A (R555). -/
def execSet0A (s : State) : Host.Outcome State Fault Refusal := .next (setBitOf 0 (.reg .a) s)

/-- SET 1,B (R555). -/
def execSet1B (s : State) : Host.Outcome State Fault Refusal := .next (setBitOf 1 (.reg .b) s)

/-- SET 1,C (R555). -/
def execSet1C (s : State) : Host.Outcome State Fault Refusal := .next (setBitOf 1 (.reg .c) s)

/-- SET 1,D (R555). -/
def execSet1D (s : State) : Host.Outcome State Fault Refusal := .next (setBitOf 1 (.reg .d) s)

/-- SET 1,E (R555). -/
def execSet1E (s : State) : Host.Outcome State Fault Refusal := .next (setBitOf 1 (.reg .e) s)

/-- SET 1,H (R555). -/
def execSet1H (s : State) : Host.Outcome State Fault Refusal := .next (setBitOf 1 (.reg .h) s)

/-- SET 1,L (R555). -/
def execSet1L (s : State) : Host.Outcome State Fault Refusal := .next (setBitOf 1 (.reg .l) s)

/-- SET 1,(HL) (R556). -/
def execSet1AtHl (s : State) : Host.Outcome State Fault Refusal := .next (setBitOf 1 .atHl s)

/-- SET 1,A (R555). -/
def execSet1A (s : State) : Host.Outcome State Fault Refusal := .next (setBitOf 1 (.reg .a) s)

/-- SET 2,B (R555). -/
def execSet2B (s : State) : Host.Outcome State Fault Refusal := .next (setBitOf 2 (.reg .b) s)

/-- SET 2,C (R555). -/
def execSet2C (s : State) : Host.Outcome State Fault Refusal := .next (setBitOf 2 (.reg .c) s)

/-- SET 2,D (R555). -/
def execSet2D (s : State) : Host.Outcome State Fault Refusal := .next (setBitOf 2 (.reg .d) s)

/-- SET 2,E (R555). -/
def execSet2E (s : State) : Host.Outcome State Fault Refusal := .next (setBitOf 2 (.reg .e) s)

/-- SET 2,H (R555). -/
def execSet2H (s : State) : Host.Outcome State Fault Refusal := .next (setBitOf 2 (.reg .h) s)

/-- SET 2,L (R555). -/
def execSet2L (s : State) : Host.Outcome State Fault Refusal := .next (setBitOf 2 (.reg .l) s)

/-- SET 2,(HL) (R556). -/
def execSet2AtHl (s : State) : Host.Outcome State Fault Refusal := .next (setBitOf 2 .atHl s)

/-- SET 2,A (R555). -/
def execSet2A (s : State) : Host.Outcome State Fault Refusal := .next (setBitOf 2 (.reg .a) s)

/-- SET 3,B (R555). -/
def execSet3B (s : State) : Host.Outcome State Fault Refusal := .next (setBitOf 3 (.reg .b) s)

/-- SET 3,C (R555). -/
def execSet3C (s : State) : Host.Outcome State Fault Refusal := .next (setBitOf 3 (.reg .c) s)

/-- SET 3,D (R555). -/
def execSet3D (s : State) : Host.Outcome State Fault Refusal := .next (setBitOf 3 (.reg .d) s)

/-- SET 3,E (R555). -/
def execSet3E (s : State) : Host.Outcome State Fault Refusal := .next (setBitOf 3 (.reg .e) s)

/-- SET 3,H (R555). -/
def execSet3H (s : State) : Host.Outcome State Fault Refusal := .next (setBitOf 3 (.reg .h) s)

/-- SET 3,L (R555). -/
def execSet3L (s : State) : Host.Outcome State Fault Refusal := .next (setBitOf 3 (.reg .l) s)

/-- SET 3,(HL) (R556). -/
def execSet3AtHl (s : State) : Host.Outcome State Fault Refusal := .next (setBitOf 3 .atHl s)

/-- SET 3,A (R555). -/
def execSet3A (s : State) : Host.Outcome State Fault Refusal := .next (setBitOf 3 (.reg .a) s)

/-- SET 4,B (R555). -/
def execSet4B (s : State) : Host.Outcome State Fault Refusal := .next (setBitOf 4 (.reg .b) s)

/-- SET 4,C (R555). -/
def execSet4C (s : State) : Host.Outcome State Fault Refusal := .next (setBitOf 4 (.reg .c) s)

/-- SET 4,D (R555). -/
def execSet4D (s : State) : Host.Outcome State Fault Refusal := .next (setBitOf 4 (.reg .d) s)

/-- SET 4,E (R555). -/
def execSet4E (s : State) : Host.Outcome State Fault Refusal := .next (setBitOf 4 (.reg .e) s)

/-- SET 4,H (R555). -/
def execSet4H (s : State) : Host.Outcome State Fault Refusal := .next (setBitOf 4 (.reg .h) s)

/-- SET 4,L (R555). -/
def execSet4L (s : State) : Host.Outcome State Fault Refusal := .next (setBitOf 4 (.reg .l) s)

/-- SET 4,(HL) (R556). -/
def execSet4AtHl (s : State) : Host.Outcome State Fault Refusal := .next (setBitOf 4 .atHl s)

/-- SET 4,A (R555). -/
def execSet4A (s : State) : Host.Outcome State Fault Refusal := .next (setBitOf 4 (.reg .a) s)

/-- SET 5,B (R555). -/
def execSet5B (s : State) : Host.Outcome State Fault Refusal := .next (setBitOf 5 (.reg .b) s)

/-- SET 5,C (R555). -/
def execSet5C (s : State) : Host.Outcome State Fault Refusal := .next (setBitOf 5 (.reg .c) s)

/-- SET 5,D (R555). -/
def execSet5D (s : State) : Host.Outcome State Fault Refusal := .next (setBitOf 5 (.reg .d) s)

/-- SET 5,E (R555). -/
def execSet5E (s : State) : Host.Outcome State Fault Refusal := .next (setBitOf 5 (.reg .e) s)

/-- SET 5,H (R555). -/
def execSet5H (s : State) : Host.Outcome State Fault Refusal := .next (setBitOf 5 (.reg .h) s)

/-- SET 5,L (R555). -/
def execSet5L (s : State) : Host.Outcome State Fault Refusal := .next (setBitOf 5 (.reg .l) s)

/-- SET 5,(HL) (R556). -/
def execSet5AtHl (s : State) : Host.Outcome State Fault Refusal := .next (setBitOf 5 .atHl s)

/-- SET 5,A (R555). -/
def execSet5A (s : State) : Host.Outcome State Fault Refusal := .next (setBitOf 5 (.reg .a) s)

/-- SET 6,B (R555). -/
def execSet6B (s : State) : Host.Outcome State Fault Refusal := .next (setBitOf 6 (.reg .b) s)

/-- SET 6,C (R555). -/
def execSet6C (s : State) : Host.Outcome State Fault Refusal := .next (setBitOf 6 (.reg .c) s)

/-- SET 6,D (R555). -/
def execSet6D (s : State) : Host.Outcome State Fault Refusal := .next (setBitOf 6 (.reg .d) s)

/-- SET 6,E (R555). -/
def execSet6E (s : State) : Host.Outcome State Fault Refusal := .next (setBitOf 6 (.reg .e) s)

/-- SET 6,H (R555). -/
def execSet6H (s : State) : Host.Outcome State Fault Refusal := .next (setBitOf 6 (.reg .h) s)

/-- SET 6,L (R555). -/
def execSet6L (s : State) : Host.Outcome State Fault Refusal := .next (setBitOf 6 (.reg .l) s)

/-- SET 6,(HL) (R556). -/
def execSet6AtHl (s : State) : Host.Outcome State Fault Refusal := .next (setBitOf 6 .atHl s)

/-- SET 6,A (R555). -/
def execSet6A (s : State) : Host.Outcome State Fault Refusal := .next (setBitOf 6 (.reg .a) s)

/-- SET 7,B (R555). -/
def execSet7B (s : State) : Host.Outcome State Fault Refusal := .next (setBitOf 7 (.reg .b) s)

/-- SET 7,C (R555). -/
def execSet7C (s : State) : Host.Outcome State Fault Refusal := .next (setBitOf 7 (.reg .c) s)

/-- SET 7,D (R555). -/
def execSet7D (s : State) : Host.Outcome State Fault Refusal := .next (setBitOf 7 (.reg .d) s)

/-- SET 7,E (R555). -/
def execSet7E (s : State) : Host.Outcome State Fault Refusal := .next (setBitOf 7 (.reg .e) s)

/-- SET 7,H (R555). -/
def execSet7H (s : State) : Host.Outcome State Fault Refusal := .next (setBitOf 7 (.reg .h) s)

/-- SET 7,L (R555). -/
def execSet7L (s : State) : Host.Outcome State Fault Refusal := .next (setBitOf 7 (.reg .l) s)

/-- SET 7,(HL) (R556). -/
def execSet7AtHl (s : State) : Host.Outcome State Fault Refusal := .next (setBitOf 7 .atHl s)

/-- SET 7,A (R555). -/
def execSet7A (s : State) : Host.Outcome State Fault Refusal := .next (setBitOf 7 (.reg .a) s)

end Sys2Proof.Machine
end

