-- ==== Sys2Proof/Machine/System.lean ====
section
/-! DEFINITION. Control of the CPU (45_system.md R600 to R606): NOP, HALT, STOP, DI, EI, the CB prefix, the unrecognized opcodes. -/

namespace Sys2Proof.Machine

/-- NOP (R600): PC has already moved on. -/
def noOperation (s : State) : State := s

/-- An unrecognized opcode (R606): no state change. -/
def unrecognized (s : State) : State := s

/-- HALT (R601). -/
def haltCpu (s : State) : State := { s with cpu.halted := true }

/-- STOP (R602). -/
def stopCpu (s : State) : State := { s with cpu.stopped := true }

/-- DI (R603) and EI (R604), effective at once. -/
def setIme (v : Bool) (s : State) : State := { s with cpu.ime := v }

/-- The CB table's entry for a byte, run (R318, R535 to R556). -/
def runCbEntry (op2 : Byte) (s : State) : State :=
  let y := op2.toNat / 8 % 8
  let x := loc8Of (op2.toNat % 8)
  match op2.toNat / 64 with
  | 0 => rotateLoc (rotOpOf y) x s
  | 1 => testBit (bitNumOf y) x s
  | 2 => resetBit (bitNumOf y) x s
  | _ => setBitOf (bitNumOf y) x s

/-- The CB prefix (R605, R321): the byte at PC is fetched and its CB entry runs. -/
def runPrefixed (s : State) : State := runCbEntry (read8 s s.cpu.pc) (setPc (s.cpu.pc + 1) s)

/-- NOP (R600). -/
def execNop (s : State) : Host.Outcome State Fault Refusal := .next (noOperation s)

/-- STOP (R602). -/
def execStop (s : State) : Host.Outcome State Fault Refusal := .next (stopCpu s)

/-- HALT (R601). -/
def execHalt (s : State) : Host.Outcome State Fault Refusal := .next (haltCpu s)

/-- PREFIX CB (R605). -/
def execPrefixCb (s : State) : Host.Outcome State Fault Refusal := .next (runPrefixed s)

/-- Unrecognized opcode 0xD3 (R606). -/
def execIllegalD3 (s : State) : Host.Outcome State Fault Refusal := .next (unrecognized s)

/-- Unrecognized opcode 0xDB (R606). -/
def execIllegalDB (s : State) : Host.Outcome State Fault Refusal := .next (unrecognized s)

/-- Unrecognized opcode 0xDD (R606). -/
def execIllegalDD (s : State) : Host.Outcome State Fault Refusal := .next (unrecognized s)

/-- Unrecognized opcode 0xE3 (R606). -/
def execIllegalE3 (s : State) : Host.Outcome State Fault Refusal := .next (unrecognized s)

/-- Unrecognized opcode 0xE4 (R606). -/
def execIllegalE4 (s : State) : Host.Outcome State Fault Refusal := .next (unrecognized s)

/-- Unrecognized opcode 0xEB (R606). -/
def execIllegalEB (s : State) : Host.Outcome State Fault Refusal := .next (unrecognized s)

/-- Unrecognized opcode 0xEC (R606). -/
def execIllegalEC (s : State) : Host.Outcome State Fault Refusal := .next (unrecognized s)

/-- Unrecognized opcode 0xED (R606). -/
def execIllegalED (s : State) : Host.Outcome State Fault Refusal := .next (unrecognized s)

/-- DI (R603). -/
def execDi (s : State) : Host.Outcome State Fault Refusal := .next (setIme false s)

/-- Unrecognized opcode 0xF4 (R606). -/
def execIllegalF4 (s : State) : Host.Outcome State Fault Refusal := .next (unrecognized s)

/-- EI (R604). -/
def execEi (s : State) : Host.Outcome State Fault Refusal := .next (setIme true s)

/-- Unrecognized opcode 0xFC (R606). -/
def execIllegalFC (s : State) : Host.Outcome State Fault Refusal := .next (unrecognized s)

/-- Unrecognized opcode 0xFD (R606). -/
def execIllegalFD (s : State) : Host.Outcome State Fault Refusal := .next (unrecognized s)

end Sys2Proof.Machine
end

