-- ==== Sys2Proof/Machine/Scheduler.lean ====
section
/-! DEFINITION. The CPU step (30_encoding.md R321), one iteration of the frame loop, the frame's end and the frame
(63_scheduler_host.md R903 to R907). -/

namespace Sys2Proof.Machine

/-- The instruction at PC: its bytes are fetched through read8 (R321, R231). Fetching three at once reads the same bytes,
since no read has an effect (log entry 5). -/
def fetchInstr (s : State) : Instr :=
  decodeBytes (read8 s s.cpu.pc) (read8 s (s.cpu.pc + 1)) (read8 s (s.cpu.pc + 2))

/-- PC moved past the instruction's bytes (R105). -/
def advancePc (i : Instr) (s : State) : State := setPc (s.cpu.pc + BitVec.ofNat 16 (i.length s.cfg.stopLength)) s

/-- Whether the CPU fetches nothing (R321). -/
def cpuIdle (s : State) : Bool := s.cpu.halted || s.cpu.stopped

/-- The CPU cycle counter grows (R109). -/
def addCycles (n : Nat) (s : State) : State := { s with cpu.cycles := s.cpu.cycles + n }

/-- The frame cycle count grows (R161). -/
def addFrameCycles (n : Nat) (s : State) : State := { s with sched.frameCycles := s.sched.frameCycles + n }

/-- The cost `cpu.step()` returns (R321). -/
def stepCost (s : State) : Nat := if cpuIdle s then s.cfg.haltStepCycles else instrCost s.cfg (fetchInstr s)

/-- `cpu.step()` (R321). -/
def cpuStep (s : State) : Host.Outcome State Fault Refusal :=
  if cpuIdle s then .next (addCycles (stepCost s) s)
  else
    match exec (fetchInstr s) (advancePc (fetchInstr s) s) with
    | .next t => .next (addCycles (stepCost s) t)
    | .fault r => .fault r
    | .refused r => .refused r

/-- The devices' half of an iteration (R904): they advance by `n` cycles, and so does the frame. -/
def deviceStep (n : Nat) (s : State) : State := addFrameCycles n (mmuStep n s)

/-- The dispatch half of an iteration (R904, R708). -/
def dispatchStep (s : State) : State :=
  match dispatchSource s with
  | none => s
  | some b => deviceStep s.cfg.dispatchCycles (addCycles s.cfg.dispatchCycles (dispatch b s))

/-- One iteration (R904). -/
def iterate (s : State) : Host.Outcome State Fault Refusal :=
  match cpuStep s with
  | .next t => .next (dispatchStep (deviceStep (stepCost s) t))
  | .fault r => .fault r
  | .refused r => .refused r

/-- The cycle budget of a frame (R905). -/
def frameBudget : Nat := 70224

/-- What `deliver()` hands to the callbacks (R906, R907). -/
def deliveryOf (s : State) : Delivery :=
  { frame := s.ppu.frame, audio := if s.host.soundEnabled then some s.sched.samples else none }

/-- The end test after an iteration (R905). A frame that ends leaves the frame cycle count at 0 for the next call (R903). -/
def frameEnd (s : State) : State :=
  if s.ppu.frameReady then
    { s with ppu.frameReady := false, sched.frameCycles := 0, sched.lastFrame := .delivered (deliveryOf s) }
  else if frameBudget ≤ s.sched.frameCycles then
    { s with sched.frameCycles := 0, sched.lastFrame := .budgetExceeded }
  else { s with sched.lastFrame := .inFrame }

/-- One pass of the frame loop of R905: an iteration and the end test. -/
def frameStep (s : State) : Host.Outcome State Fault Refusal :=
  match iterate s with
  | .next t => .next (frameEnd t)
  | .fault r => .fault r
  | .refused r => .refused r

/-- Passes of the frame loop until the frame ends, at most `fuel` of them. -/
def frameLoop : Nat → State → Host.Outcome State Fault Refusal
  | 0, s => .next s
  | fuel + 1, s =>
    match frameStep s with
    | .next t =>
      match t.sched.lastFrame with
      | .inFrame => frameLoop fuel t
      | .delivered _ => .next t
      | .budgetExceeded => .next t
    | .fault r => .fault r
    | .refused r => .refused r

/-- `step()`, one frame (R903, R905). Every pass costs at least one cycle, so the budget bounds the passes (log entry 19). -/
def frame (s : State) : Host.Outcome State Fault Refusal :=
  frameLoop frameBudget { s with sched.frameCycles := 0 }

/-- Puts a byte into the storage behind an address: how a host places a program, not a CPU store. -/
def placeByte (a : Word) (v : Byte) (s : State) : State :=
  match regionOf a.toNat with
  | .rom0 off => { s with cart.rom := s.cart.rom.write off v, cart.romLen := max s.cart.romLen (off + 1) }
  | .romN off =>
    let e := romBankOffset s.cart off
    { s with cart.rom := s.cart.rom.write e v, cart.romLen := max s.cart.romLen (e + 1) }
  | .vram off => { s with ppu.vram := s.ppu.vram.write off v }
  | .ext off =>
    match extKey s.cart off with
    | some k => { s with cart.ram := s.cart.ram.write k v }
    | none => s
  | .wram off => { s with wram := s.wram.write off v }
  | .oam off => { s with ppu.oam := s.ppu.oam.write off v }
  | .hram off => { s with hram := s.hram.write off v }
  | .unusable => s
  | .io _ => s
  | .ie => s

/-- Whether `placeByte` changes exactly what a fetch at the address reads. -/
def placeable (s : State) (a : Word) : Bool :=
  match regionOf a.toNat with
  | .rom0 off => decide (off < s.cart.romLen)
  | .romN off => decide (romBankOffset s.cart off < s.cart.romLen)
  | .ext off => (extKey s.cart off).isSome && s.cart.kind != .mbc2
  | .vram _ => true
  | .wram _ => true
  | .oam _ => true
  | .hram _ => true
  | .unusable => false
  | .io _ => false
  | .ie => false

/-- Where a program's first instruction is placed: at PC, or at the entry point 0x0100 where PC's bytes cannot be set (log entry 8). -/
def placeAddr (s : State) : Word :=
  if placeable s s.cpu.pc && placeable s (s.cpu.pc + 1) && placeable s (s.cpu.pc + 2) then s.cpu.pc else 0x0100

/-- The state in which the next step fetches the bytes `b0 b1 b2` (log entry 8): the bytes are placed, the CPU is awake, the
scheduler not paused. -/
def placeProgram (b0 b1 b2 : Byte) (s : State) : State :=
  let a := placeAddr s
  let t := placeByte (a + 2) b2 (placeByte (a + 1) b1 (placeByte a b0 s))
  { t with cpu.pc := a, cpu.halted := false, cpu.stopped := false,
           sched.runState := if s.sched.runState = .paused then .running else s.sched.runState }

/-- The three bytes an opcode-table word stands for, operand bytes zero. -/
def placeTableWord (nbits w : Nat) (s : State) : State :=
  let bs := tableBytes nbits w
  placeProgram (bs.getD 0 0) (bs.getD 1 0) (bs.getD 2 0) s

end Sys2Proof.Machine
end

