-- ==== Sys2Proof/Machine/Step.lean ====
section
/-! DEFINITION. The machine's step: one pass of the scheduler's frame loop (63_scheduler_host.md R904, R905), and the host's way to
place the next instruction. -/

namespace Sys2Proof.Machine

/-- One step: where the scheduler is paused nothing changes (R910); otherwise one iteration and the frame's end test (log entry 4). -/
def step (s : State) : Host.Outcome State Fault Refusal :=
  if s.sched.runState = .paused then .next s else frameStep s

/-- The state in which the next step runs the instruction of an opcode-table word (log entry 8). -/
def State.withFetchWord (s : State) (nbits w : Nat) : State := placeTableWord nbits w s

end Sys2Proof.Machine
end

