-- ==== Sys2Proof/Machine/HostOps.lean ====
section
/-! DEFINITION. The host operations (63_scheduler_host.md R908 to R914) and the reset procedure (70_reset_and_hazards.md R951, R952).
Press and Release are in Machine/Joypad.lean, SaveState and LoadState in Machine/SaveState.lean. -/

namespace Sys2Proof.Machine

/-- The PPU after the reset procedure (R951). The compositing scratch is not in the procedure and is kept. -/
def resetPpuOf (ramInit : Memory) (p : Ppu) : Ppu :=
  { State.resetPpu with
    vram := ramInit.slice 0x8000 0x2000
    oam := ramInit.slice 0xFE00 160
    bgIndex := p.bgIndex
    objOwned := p.objOwned }

/-- `resetProcedure()` (R951); what R952 names is kept. -/
def resetProcedure (s : State) : State :=
  { s with
    cpu := State.resetCpu
    ic := State.reset.ic
    timer := State.reset.timer
    ppu := resetPpuOf s.cfg.ramInit s.ppu
    joy := State.reset.joy
    sound := State.resetSound
    cart := resetBanks s.cart
    wram := s.cfg.ramInit.slice 0xC000 0x2000
    hram := s.cfg.ramInit.slice 0xFF80 127 }

/-- `Start()` (R909). -/
def hostStart (s : State) : State := { s with sched.runState := .running }

/-- `Stop()` (R909). -/
def hostStop (s : State) : State := { s with sched.runState := .stopped }

/-- `Pause()` (R909): from paused it resumes. -/
def hostPause (s : State) : State :=
  { s with sched.runState := if s.sched.runState = .paused then .running else .paused }

/-- `Step()` (R910): nothing while paused, otherwise one frame. -/
def hostStep (s : State) : Host.Outcome State Fault Refusal :=
  if s.sched.runState = .paused then .next s else frame s

/-- The reconfiguration call (R908, R162). -/
def reconfigure (h : HostConfig) (s : State) : State := { s with host := h }

/-- `CpuStep()` (R914): one `cpu.step()`, no device step and no dispatch check. It returns `stepCost`. -/
def hostCpuStep (s : State) : Host.Outcome State Fault Refusal := cpuStep s

/-- Why a ROM load fails (R267). -/
inductive LoadRomError where
  | tooSmall
  | unrecognizedType
deriving DecidableEq, Repr

/-- Only the low nibbles of a memory: MBC2's 4-bit entries (R266). -/
def nibblesOf (m : Memory) : Memory :=
  (m.map fun c => (c.1, c.2 &&& 0x0F)).filter fun c => c.2 != Memory.unlisted

/-- The cartridge RAM at load: `CART_RAM_INIT` over the array's length (R28, R267). -/
def cartRamAtLoad (cartRamInit : Memory) (kind : MbcKind) (len : Nat) : Memory :=
  match kind with
  | .mbc2 => nibblesOf (cartRamInit.slice 0 len)
  | .none | .mbc1 | .mbc3 | .mbc5 => cartRamInit.slice 0 len

/-- The cartridge a load installs (R260 to R267, R288). -/
def cartOf (cartRamInit : Memory) (image : List Byte) (kind : MbcKind) : Cart :=
  let len := ramLenOf kind (image.getD 0x149 0)
  { kind := kind
    rom := Memory.ofBytes image
    romLen := image.length
    romBank := 1
    ramBank := 0
    ramEnabled := false
    bankingMode := false
    ram := cartRamAtLoad cartRamInit kind len
    ramLen := len }

/-- `LoadROM(image)` (R912, R267): the checks come first, and a failed load changes nothing. -/
def loadRom (image : List Byte) (s : State) : Except LoadRomError State :=
  if image.length < 0x8000 then .error .tooSmall
  else
    match kindOfType (image.getD 0x147 0) with
    | none => .error .unrecognizedType
    | some kind => .ok (hostStop (resetProcedure { s with cart := cartOf s.cfg.cartRamInit image kind }))

end Sys2Proof.Machine
end

