-- ==== Sys2Proof/Machine/SaveState.lean ====
section
/-! DEFINITION. The save-state record (63_scheduler_host.md R915 to R918). -/

namespace Sys2Proof.Machine

/-- `len` bytes of a number, least significant first, taken mod 256^len. -/
def leBytes (n len : Nat) : List Byte := (List.range len).map fun i => BitVec.ofNat 8 (n / 256 ^ i)

/-- `len` bytes of a number in the record's byte order (R30). -/
def numBytes (e : SaveEndian) (n len : Nat) : List Byte :=
  match e with
  | .little => leBytes n len
  | .big => (leBytes n len).reverse

/-- The number of a byte sequence, least significant first. -/
def leNum : List Byte → Nat
  | [] => 0
  | b :: bs => b.toNat + 256 * leNum bs

/-- The number of a field in the record's byte order (R30). -/
def fieldNum (e : SaveEndian) (bs : List Byte) : Nat :=
  match e with
  | .little => leNum bs
  | .big => leNum bs.reverse

/-- The bytes of `SAVE_MAGIC` (R30). -/
def magicBytes (cfg : Config) : List Byte :=
  [cfg.saveMagic.1, cfg.saveMagic.2.1, cfg.saveMagic.2.2.1, cfg.saveMagic.2.2.2]

/-- The bytes of `SAVE_VERSION` (R30). -/
def versionBytes (cfg : Config) : List Byte := numBytes cfg.saveEndian cfg.saveVersion.toNat 4

/-- The eight button booleans in the record's order (R915). -/
def buttonBytes (j : Joypad) : List Byte :=
  [boolByte j.a, boolByte j.b, boolByte j.start, boolByte j.select, boolByte j.up, boolByte j.down, boolByte j.left, boolByte j.right]

/-- Offsets 0 to 31 of the record (R915). -/
def headerBytes (timestamp : BitVec 64) (s : State) : List Byte :=
  magicBytes s.cfg ++ versionBytes s.cfg ++ numBytes s.cfg.saveEndian timestamp.toNat 8 ++ s.cart.rom.bytes 0x134 16

/-- Offsets 32 to 56 of the record: the CPU (R915). -/
def cpuBytes (s : State) : List Byte :=
  [s.cpu.a, s.cpu.b, s.cpu.c, s.cpu.d, s.cpu.e, s.cpu.h, s.cpu.l] ++
  numBytes s.cfg.saveEndian s.cpu.sp.toNat 2 ++ numBytes s.cfg.saveEndian s.cpu.pc.toNat 2 ++
  [boolByte (flagZ s), boolByte (flagN s), boolByte (flagH s), boolByte (flagC s), boolByte s.cpu.halted, boolByte s.cpu.stopped] ++
  numBytes s.cfg.saveEndian s.cpu.cycles 8

/-- Offsets 57 to 73 of the record: the PPU (R915). -/
def ppuBytes (s : State) : List Byte :=
  ((List.range 12).map fun i => read8 s (BitVec.ofNat 16 (0xFF40 + i))) ++
  [s.ppu.mode.code.setWidth 8] ++ numBytes s.cfg.saveEndian s.ppu.acc 4

/-- Offsets 74 to 108 of the record: timer, joypad, sound, interrupts (R915). -/
def deviceBytes (s : State) : List Byte :=
  ((List.range 4).map fun i => read8 s (BitVec.ofNat 16 (0xFF04 + i))) ++
  [read8 s 0xFF00] ++ buttonBytes s.joy ++
  ((List.range 3).map fun i => read8 s (BitVec.ofNat 16 (0xFF24 + i))) ++
  ((List.range 16).map fun i => read8 s (BitVec.ofNat 16 (0xFF30 + i))) ++
  [read8 s 0xFF0F, s.ic.ie, boolByte s.cpu.ime]

/-- `SaveState(timestamp)` (R916): the 109 bytes of R915. -/
def saveState (timestamp : BitVec 64) (s : State) : List Byte :=
  headerBytes timestamp s ++ cpuBytes s ++ ppuBytes s ++ deviceBytes s

/-- The record's byte at an offset. -/
def recByte (bs : List Byte) (off : Nat) : Byte := bs.getD off 0

/-- The record's `len` bytes from an offset. -/
def recBytes (bs : List Byte) (off len : Nat) : List Byte := (bs.drop off).take len

/-- The offsets that hold a boolean (R915). -/
def boolOffsets : List Nat := [43, 44, 45, 46, 47, 48] ++ [79, 80, 81, 82, 83, 84, 85, 86, 108]

/-- Why a save-state load fails (R917). -/
inductive LoadStateError where
  | badLength
  | badMagic
  | badVersion
  | badMode
  | badBoolean
  | badLy
  | badAccumulator
deriving DecidableEq, Repr

/-- The first check of R917 a record fails, none where it passes them all (log entry 20). -/
def recordError (cfg : Config) (bs : List Byte) : Option LoadStateError :=
  if bs.length ≠ 109 then some .badLength
  else if recBytes bs 0 4 ≠ magicBytes cfg then some .badMagic
  else if recBytes bs 4 4 ≠ versionBytes cfg then some .badVersion
  else if 3 < (recByte bs 69).toNat then some .badMode
  else if boolOffsets.any fun o => decide (1 < (recByte bs o).toNat) then some .badBoolean
  else if 153 < (recByte bs 61).toNat then some .badLy
  else if (PpuMode.ofCode ((recByte bs 69).setWidth 2)).length ≤ fieldNum cfg.saveEndian (recBytes bs 70 4) then some .badAccumulator
  else none

/-- A boolean byte of the record. -/
def recBool (bs : List Byte) (off : Nat) : Bool := recByte bs off == 1

/-- A 16-bit field of the record. -/
def recWord (cfg : Config) (bs : List Byte) (off : Nat) : Word := BitVec.ofNat 16 (fieldNum cfg.saveEndian (recBytes bs off 2))

/-- The CPU fields of a record (R917). -/
def loadCpu (cfg : Config) (bs : List Byte) : Cpu where
  a := recByte bs 32
  f := packFlags { z := recBool bs 43, n := recBool bs 44, h := recBool bs 45, c := recBool bs 46 }
  b := recByte bs 33
  c := recByte bs 34
  d := recByte bs 35
  e := recByte bs 36
  h := recByte bs 37
  l := recByte bs 38
  sp := recWord cfg bs 39
  pc := recWord cfg bs 41
  ime := recBool bs 108
  halted := recBool bs 47
  stopped := recBool bs 48
  cycles := fieldNum cfg.saveEndian (recBytes bs 49 8)

/-- The PPU fields of a record (R917): stored without the effects of an LCDC or DMA write. -/
def loadPpu (cfg : Config) (bs : List Byte) (p : Ppu) : Ppu :=
  { p with
    lcdc := recByte bs 57
    statEnables := (recByte bs 58).extractLsb' 3 4
    coincidence := bitOf (recByte bs 58) 2
    scy := recByte bs 59
    scx := recByte bs 60
    ly := recByte bs 61
    lyc := recByte bs 62
    dma := recByte bs 63
    bgp := recByte bs 64
    obp0 := recByte bs 65
    obp1 := recByte bs 66
    wy := recByte bs 67
    wx := recByte bs 68
    mode := PpuMode.ofCode ((recByte bs 69).setWidth 2)
    acc := fieldNum cfg.saveEndian (recBytes bs 70 4) }

/-- The joypad fields of a record (R917). -/
def loadJoypad (bs : List Byte) : Joypad where
  a := recBool bs 79
  b := recBool bs 80
  start := recBool bs 81
  select := recBool bs 82
  up := recBool bs 83
  down := recBool bs 84
  left := recBool bs 85
  right := recBool bs 86
  selAction := bitOf (recByte bs 78) 5
  selDir := bitOf (recByte bs 78) 4

/-- Stores record bytes into the sound bytes from an address up (R917). -/
def loadSound (bs : List Byte) (off addr len : Nat) (m : Memory) : Memory :=
  (List.range len).foldl (fun m i => m.write (addr + i) (recByte bs (off + i))) m

/-- The state a valid record gives (R917): what the record does not hold is kept. -/
def applyRecord (bs : List Byte) (s : State) : State :=
  { s with
    cpu := loadCpu s.cfg bs
    ppu := loadPpu s.cfg bs s.ppu
    timer := { s.timer with
      div := recByte bs 74
      tima := recByte bs 75
      tma := recByte bs 76
      tac := (recByte bs 77).setWidth 3 }
    joy := loadJoypad bs
    sound := loadSound bs 90 0xFF30 16 (loadSound bs 87 0xFF24 3 s.sound)
    ic := { s.ic with reqs := (recByte bs 106).setWidth 5, ie := recByte bs 107 } }

/-- `LoadState(bytes)` (R917): the whole record is checked first. Records that no run gives, as mode 3 with LY 150,
pass too (log entry 23). -/
def loadState (bs : List Byte) (s : State) : Except LoadStateError State :=
  match recordError s.cfg bs with
  | some e => .error e
  | none => .ok (applyRecord bs s)

end Sys2Proof.Machine
end

