-- ==== Sys2Proof/WellFormed.lean ====
section
/-! DEFINITION. Which terms of `Instr` are instructions a program can hold. Every operand value is allowed (30_encoding.md R320), so
the one check is that the CB prefix is no instruction on its own (45_system.md R605). -/

namespace Sys2Proof

/-- Whether the term is the prefix row of the opcode table. -/
def Instr.isPrefix : Instr → Bool
  | .prefixCb => true
  | _ => false

/-- A well-formed instruction: any term but the bare prefix (R605). -/
def Instr.wellFormed (i : Instr) : Bool := !i.isPrefix

end Sys2Proof
end

