-- ==== Sys2Proof/Safety.lean ====
section
/-! DEFINITION. The terms claims are stated in: the invariant every step keeps, what a store can change, what an instruction leaves
alone, what a save state holds, and the renderer as the spec's own loops. -/

namespace Sys2Proof

/-- The code of a register field (R302). -/
def R8.code : R8 → Nat
  | .b => 0
  | .c => 1
  | .d => 2
  | .e => 3
  | .h => 4
  | .l => 5
  | .a => 7

/-- The code of an operand field (R302). -/
def Loc8.code : Loc8 → Nat
  | .reg r => r.code
  | .atHl => 6

/-- The code of a pair of the SP group (R303). -/
def R16.code : R16 → Nat
  | .bc => 0
  | .de => 1
  | .hl => 2
  | .sp => 3

/-- The code of a pair of the AF group (R304). -/
def R16Stack.code : R16Stack → Nat
  | .bc => 0
  | .de => 1
  | .hl => 2
  | .af => 3

/-- The code of a condition (R305). -/
def Cond.code : Cond → Nat
  | .nz => 0
  | .z => 1
  | .nc => 2
  | .c => 3

/-- The code of a rotate or shift (R307). -/
def RotOp.code : RotOp → Nat
  | .rlc => 0
  | .rrc => 1
  | .rl => 2
  | .rr => 3
  | .sla => 4
  | .sra => 5
  | .swap => 6
  | .srl => 7

/-- The byte of an unrecognized opcode (R319). -/
def Unrecognized.opcode : Unrecognized → Byte
  | .xD3 => 0xD3
  | .xDB => 0xDB
  | .xDD => 0xDD
  | .xE3 => 0xE3
  | .xE4 => 0xE4
  | .xEB => 0xEB
  | .xEC => 0xEC
  | .xED => 0xED
  | .xF4 => 0xF4
  | .xFC => 0xFC
  | .xFD => 0xFD

/-- An ALU instruction of R306, in any of its three forms (R316). -/
def Instr.alu (op : AluOp) : Src8 → Instr
  | .loc x => .aluLoc op x
  | .imm d8 => .aluImm op d8

/-- A rotate or shift as a whole-byte operation, with its carry out (R535 to R549). -/
def rotSpec (v : Byte) (cf : Bool) : RotOp → Byte × Bool
  | .rlc => (v.rotateLeft 1, v.msb)
  | .rrc => (v.rotateRight 1, v.getLsbD 0)
  | .rl => ((v ++ BitVec.ofBool cf).setWidth 8, v.msb)
  | .rr => ((BitVec.ofBool cf ++ v).extractLsb' 1 8, v.getLsbD 0)
  | .sla => (v + v, v.msb)
  | .sra => (v.sshiftRight 1, v.getLsbD 0)
  | .swap => (v.rotateLeft 4, false)
  | .srl => (v >>> 1, v.getLsbD 0)

/-- The packed BCD byte of a number below 100. -/
def bcdByte (n : Nat) : Byte := BitVec.ofNat 8 (n / 10 * 16 + n % 10)

/-- An opcode byte from its fields. -/
def opByte (n : Nat) : Byte := BitVec.ofNat 8 n

/-- The bytes of an ALU instruction whose field y is `y` (R315): `10 yyy zzz`, or `11 yyy 110` and the immediate. -/
def aluBytes (y : Nat) : Src8 → List Byte
  | .loc x => [opByte (0x80 + 8 * y + x.code)]
  | .imm d8 => [opByte (0xC6 + 8 * y), d8]

/-- The cycles of an ALU instruction by its form (R453 to R476). -/
def aluCycles : Src8 → Nat
  | .loc (.reg _) => 4
  | .loc .atHl => 8
  | .imm _ => 8

/-- The rotate-A instructions of the primary table (R530 to R533), by their field y. -/
def Instr.rotA : RotOp → Option Instr
  | .rlc => some .rlca
  | .rrc => some .rrca
  | .rl => some .rla
  | .rr => some .rra
  | .sla | .sra | .swap | .srl => none

/-- The instruction has these bytes and this cost, whatever the parameters. -/
def CodedAs (i : Instr) (bytes : List Byte) (cycles : Nat) : Prop :=
  ∀ cfg : Config, encode cfg.stopLength i = bytes ∧ Machine.instrCost cfg i = cycles

/-- A conditional instruction has these bytes and costs `n` or `t` by COND_BRANCH_COST (R570), taken or not. -/
def CodedCond (i : Instr) (bytes : List Byte) (n t : Nat) : Prop :=
  ∀ cfg : Config, encode cfg.stopLength i = bytes ∧
    Machine.instrCost cfg i = (if cfg.condBranchCost = .notTaken then n else t)

end Sys2Proof

namespace Sys2Proof.Machine

/-- Every key of the memory is below `n`: the array has `n` bytes. -/
def Memory.below (n : Nat) (m : Memory) : Bool := m.all fun c => decide (c.1 < n)

/-- A canonical array of `n` bytes. -/
def Memory.array (n : Nat) (m : Memory) : Prop := m.wf = true ∧ m.below n = true

/-- The bank registers a kind can hold (R151, R152). -/
def bankBounds (c : Cart) : Prop :=
  match c.kind with
  | .none => c.romBank = 1
  | .mbc1 => 1 ≤ c.romBank.toNat % 0x20 ∧ c.romBank.toNat < 0x80 ∧ c.ramBank.toNat < 4
  | .mbc2 => 1 ≤ c.romBank.toNat ∧ c.romBank.toNat < 0x10 ∧ c.ramLen = 512
  | .mbc3 => 1 ≤ c.romBank.toNat ∧ c.romBank.toNat < 0x80 ∧ c.ramBank.toNat < 4
  | .mbc5 => True

/-- The cartridge's part of the invariant (R150 to R155, R260). -/
structure CartInv (c : Cart) : Prop where
  banks : bankBounds c
  rom : Memory.array c.romLen c.rom
  ram : Memory.array c.ramLen c.ram

/-- The PPU's part of the invariant (R124, R131, R135, R800, R801, R805, R807, R810). -/
structure PpuInv (p : Ppu) : Prop where
  accBound : p.acc < p.mode.length
  lyBound : p.ly.toNat ≤ 153
  vblankLines : lcdcBit p 7 = true → (p.mode = .vblank ↔ 144 ≤ p.ly.toNat)
  displayOff : lcdcBit p 7 = false → p.mode = .hblank ∧ p.acc = 0 ∧ p.ly = 0
  vram : Memory.array 0x2000 p.vram
  oam : Memory.array 160 p.oam
  frameRows : p.frame.length = 144
  frameColumns : ∀ row ∈ p.frame, row.length = 160
  bgIndexColumns : p.bgIndex.length = 160
  objOwnedColumns : p.objOwned.length = 160

/-- What holds between any two operations of an iteration (R102, R112, R117, R145, R157, R158, R902). -/
structure MidInv (s : State) : Prop where
  fLowNibble : s.cpu.f &&& 0x0F = 0
  controllerIdle : s.ic.phase = .idle
  divCounter : s.timer.divCounter < 256
  timerOff : timerEnabled s.timer.tac = false → s.timer.timaCounter = 0
  ppu : PpuInv s.ppu
  cart : CartInv s.cart
  sound : s.sound.wf = true
  wram : Memory.array 0x2000 s.wram
  hram : Memory.array 127 s.hram
  noSamples : s.sched.samples = []
  cfg : s.cfg.valid = true

/-- The invariant between two steps: the above, the TIMA sub-counter below its period (R117), no undelivered frame, and the frame
inside its budget (R905). -/
structure State.Inv (s : State) : Prop where
  mid : MidInv s
  timaCounter : timerEnabled s.timer.tac = true → s.timer.timaCounter < timerPeriod s.timer.tac
  delivered : s.ppu.frameReady = false
  budget : s.sched.frameCycles < frameBudget

/-- Whether a write to address `a` can change what a read of address `b` returns: the byte itself with its echo (R210) or MBC2 alias
(R271), the windows a bank register moves (R269, R270), STAT and LY at a display change (R810, R811), OAM at a DMA (R225). -/
def storeReaches (kind : MbcKind) (a b : Word) : Prop :=
  if a.toNat < 0x8000 then
    (0x4000 ≤ b.toNat ∧ b.toNat < 0x8000) ∨ (0xA000 ≤ b.toNat ∧ b.toNat < 0xC000)
  else if 0xA000 ≤ a.toNat ∧ a.toNat < 0xC000 then
    0xA000 ≤ b.toNat ∧ b.toNat < 0xC000 ∧ (b = a ∨ (kind = .mbc2 ∧ b.toNat % 0x200 = a.toNat % 0x200))
  else if 0xC000 ≤ a.toNat ∧ a.toNat < 0xFE00 then
    0xC000 ≤ b.toNat ∧ b.toNat < 0xFE00 ∧ b.toNat % 0x2000 = a.toNat % 0x2000
  else if a = 0xFF40 then b = 0xFF40 ∨ b = 0xFF41 ∨ b = 0xFF44 ∨ b = 0xFF0F
  else if a = 0xFF46 then b = 0xFF46 ∨ (0xFE00 ≤ b.toNat ∧ b.toNat < 0xFEA0)
  else b = a

/-- Every address a store to `a` does not reach reads in `t` as it did in `s`. -/
def MemoryFrame (s t : State) (a : Word) : Prop :=
  ∀ b, ¬ storeReaches s.cart.kind a b → read8 t b = read8 s b

/-- Every address the two bytes of a 16-bit store at `a` do not reach reads in `t` as it did in `s`. -/
def MemoryFrame16 (s t : State) (a : Word) : Prop :=
  ∀ b, ¬ storeReaches s.cart.kind a b → ¬ storeReaches s.cart.kind (a + 1) b → read8 t b = read8 s b

/-- Nothing but the CPU's own registers differs, and every address reads as before. -/
def OnlyCpu (s t : State) : Prop := { t with cpu := s.cpu } = s ∧ ∀ b, read8 t b = read8 s b

/-- The CPU registers of `t` are `c`, but that a store may have ended a HALT by a device request (R702). -/
def CpuIs (t : State) (c : Cpu) : Prop :=
  t.cpu = { c with halted := t.cpu.halted } ∧ (t.cpu.halted = true → c.halted = true)

/-- What no instruction writes: the parameters, the ROM, the kind, the buttons, the host's and the scheduler's state. -/
def KeepsHostState (s t : State) : Prop :=
  t.cfg = s.cfg ∧ t.cart.rom = s.cart.rom ∧ t.cart.romLen = s.cart.romLen ∧ t.cart.kind = s.cart.kind ∧
  (∀ key, t.joy.pressed key = s.joy.pressed key) ∧ t.sched = s.sched ∧ t.host = s.host

/-- `t` is `s` after one byte store of `v` at `a`, but that its CPU registers are `c`. -/
def StoredAt (s t : State) (a : Word) (v : Byte) (c : Cpu) : Prop :=
  t = { write8 a v s with cpu := t.cpu } ∧ CpuIs t c ∧ MemoryFrame s t a ∧ KeepsHostState s t

/-- `t` is `s` after one 16-bit store of `v` at `a`, but that its CPU registers are `c`. -/
def StoredAt16 (s t : State) (a v : Word) (c : Cpu) : Prop :=
  t = { write16 a v s with cpu := t.cpu } ∧ CpuIs t c ∧ MemoryFrame16 s t a ∧ KeepsHostState s t

/-- The instruction answers a next state that differs from `s` in its CPU registers only, which are `c`. -/
def SetsCpu (i : Instr) (s : State) (c : Cpu) : Prop :=
  ∃ t, exec i s = .next t ∧ t.cpu = c ∧ OnlyCpu s t

/-- The instruction answers a next state that differs from `s` in register `dst`, now `v`, and in F, now `f`; nothing else. -/
def SetsReg (i : Instr) (s : State) (dst : R8) (v f : Byte) : Prop :=
  ∃ t, exec i s = .next t ∧ (∀ q, reg8 t q = if q = dst then v else reg8 s q) ∧ t.cpu.f = f ∧
    { t.cpu with a := s.cpu.a, b := s.cpu.b, c := s.cpu.c, d := s.cpu.d, e := s.cpu.e, h := s.cpu.h, l := s.cpu.l,
                 f := s.cpu.f } = s.cpu ∧ OnlyCpu s t

/-- The instruction answers a next state that differs from `s` in pair `dst`, now `v`, and in F, now `f`; nothing else. -/
def SetsPair (i : Instr) (s : State) (dst : R16) (v : Word) (f : Byte) : Prop :=
  ∃ t, exec i s = .next t ∧ (∀ q, reg16 t q = if q = dst then v else reg16 s q) ∧ t.cpu.f = f ∧
    { t.cpu with b := s.cpu.b, c := s.cpu.c, d := s.cpu.d, e := s.cpu.e, h := s.cpu.h, l := s.cpu.l, sp := s.cpu.sp,
                 f := s.cpu.f } = s.cpu ∧ OnlyCpu s t

/-- The instruction answers a next state: `s` after a byte store, with CPU registers `c`. -/
def StoresByte (i : Instr) (s : State) (a : Word) (v : Byte) (c : Cpu) : Prop :=
  ∃ t, exec i s = .next t ∧ StoredAt s t a v c

/-- The instruction answers a next state: `s` after a 16-bit store, with CPU registers `c`. -/
def StoresWord (i : Instr) (s : State) (a v : Word) (c : Cpu) : Prop :=
  ∃ t, exec i s = .next t ∧ StoredAt16 s t a v c

/-- A state that a save-state record can hold whole (R102, R915, R917): what a load checks, and a cycle counter of 8 bytes
(log entry 12). -/
structure Saveable (s : State) : Prop where
  fLowNibble : s.cpu.f &&& 0x0F = 0
  cyclesFit : s.cpu.cycles < 2 ^ 64
  accBound : s.ppu.acc < s.ppu.mode.length
  lyBound : s.ppu.ly.toNat ≤ 153
  sound : s.sound.wf = true

/-- `t` differs from `s` only in what a save-state record holds (R915): the memories, the bank state, the sub-cycle counters, the
other sound bytes, frameReady, the frame buffer and the run state are kept. -/
def KeepsUnsaved (s t : State) : Prop :=
  t = { s with
    cpu := t.cpu
    ppu := { s.ppu with
      lcdc := t.ppu.lcdc, statEnables := t.ppu.statEnables, coincidence := t.ppu.coincidence, scy := t.ppu.scy, scx := t.ppu.scx,
      ly := t.ppu.ly, lyc := t.ppu.lyc, dma := t.ppu.dma, bgp := t.ppu.bgp, obp0 := t.ppu.obp0, obp1 := t.ppu.obp1,
      wy := t.ppu.wy, wx := t.ppu.wx, mode := t.ppu.mode, acc := t.ppu.acc }
    timer := { s.timer with div := t.timer.div, tima := t.timer.tima, tma := t.timer.tma, tac := t.timer.tac }
    joy := t.joy
    sound := t.sound
    ic := { s.ic with reqs := t.ic.reqs, ie := t.ic.ie } } ∧
  ∀ k, ¬ (0xFF24 ≤ k ∧ k ≤ 0xFF26 ∨ 0xFF30 ≤ k ∧ k ≤ 0xFF3F) → t.sound.read k = s.sound.read k

/-- What the loops of R820 to R831 write for one line: the row of the frame buffer, `bgIndex` and `owned`. -/
structure LineBuffer where
  row : List Shade
  index : List Shade
  owned : List Bool
deriving DecidableEq, Repr

/-- R829's scan: the entries in order, each covering one selected, until `room` are; bounds over the integers. -/
def scanOam (p : Ppu) (ly : Nat) : List Nat → Nat → List Nat
  | [], _ => []
  | i :: rest, room =>
    let top : Int := (p.oam.read (4 * i)).toNat - 16
    if room = 0 then []
    else if top ≤ ly ∧ (ly : Int) < top + (if p.lcdc.getLsbD 2 then 16 else 8) then i :: scanOam p ly rest (room - 1)
    else scanOam p ly rest room

/-- R823 and R824: the colour index of a background or window tile's pixel. -/
def tileIndex (p : Ppu) (idx : Byte) (row col : Nat) : Shade :=
  let base : Nat := if p.lcdc.getLsbD 4 then 0x8000 + idx.toNat * 16 else (0x9000 + idx.toInt * 16).toNat
  BitVec.ofBool ((p.vram.read (base + 2 * row + 1 - 0x8000)).getLsbD (7 - col)) ++
    BitVec.ofBool ((p.vram.read (base + 2 * row - 0x8000)).getLsbD (7 - col))

/-- R825: `(P >> (2*ci)) & 3`. -/
def paletteShade (pal : Byte) (ci : Shade) : Shade := BitVec.ofNat 2 (pal.toNat / 2 ^ (2 * ci.toNat) % 4)

/-- One background or window pixel written (R822, R827). -/
def putBackground (p : Ppu) (x : Nat) (ci : Shade) (b : LineBuffer) : LineBuffer :=
  { b with index := b.index.set x ci, row := b.row.set x (paletteShade p.bgp ci) }

/-- `drawBackground(ly, x)` (R822). -/
def drawBackground (p : Ppu) (ly : Nat) (b : LineBuffer) (x : Nat) : LineBuffer :=
  let bx := (x + p.scx.toNat) % 256
  let py := (ly + p.scy.toNat) % 256
  let base := if p.lcdc.getLsbD 3 then 0x9C00 else 0x9800
  putBackground p x (tileIndex p (p.vram.read (base + py / 8 * 32 + bx / 8 - 0x8000)) (py % 8) (bx % 8)) b

/-- The body of `drawWindow`'s loop at column `x` (R827). -/
def drawWindowAt (p : Ppu) (ly : Nat) (b : LineBuffer) (x : Nat) : LineBuffer :=
  let left : Int := p.wx.toNat - 7
  let wy := ly - p.wy.toNat
  let wx := (x - left).toNat
  let base := if p.lcdc.getLsbD 6 then 0x9C00 else 0x9800
  putBackground p x (tileIndex p (p.vram.read (base + wy / 8 * 32 + wx / 8 - 0x8000)) (wy % 8) (wx % 8)) b

/-- `drawWindow(ly)` (R827). -/
def drawWindow (p : Ppu) (ly : Nat) (b : LineBuffer) : LineBuffer :=
  let left : Int := p.wx.toNat - 7
  if ly < p.wy.toNat ∨ left > 159 then b
  else ((List.range 160).filter fun (x : Nat) => decide (left ≤ (x : Int))).foldl (drawWindowAt p ly) b

/-- The body of `drawSprites`' inner loop (R830): pixel `c` of OAM entry `i`. -/
def drawSpritePixel (p : Ppu) (ly i : Nat) (b : LineBuffer) (c : Nat) : LineBuffer :=
  let h := if p.lcdc.getLsbD 2 then 16 else 8
  let attr := p.oam.read (4 * i + 3)
  let row0 : Nat := ((ly : Int) - ((p.oam.read (4 * i)).toNat - 16)).toNat
  let row := if attr.getLsbD 6 then h - 1 - row0 else row0
  let tile := if h = 16 then p.oam.read (4 * i + 2) &&& 0xFE else p.oam.read (4 * i + 2)
  let base := 0x8000 + tile.toNat * 16 + row * 2
  let x : Int := (p.oam.read (4 * i + 1)).toNat - 8 + c
  let bit := if attr.getLsbD 5 then c else 7 - c
  let ci : Shade := BitVec.ofBool ((p.vram.read (base + 1 - 0x8000)).getLsbD bit) ++
    BitVec.ofBool ((p.vram.read (base - 0x8000)).getLsbD bit)
  if x < 0 ∨ x > 159 then b
  else if b.owned.getD x.toNat false then b
  else if ci = 0 then b
  else
    let o := { b with owned := b.owned.set x.toNat true }
    if attr.getLsbD 7 ∧ b.index.getD x.toNat 0 ≠ 0 then o
    else { o with row := o.row.set x.toNat (paletteShade (if attr.getLsbD 4 then p.obp1 else p.obp0) ci) }

/-- `drawSprites(ly)` (R830, R831). -/
def drawSprites (p : Ppu) (ly : Nat) (b : LineBuffer) : LineBuffer :=
  (scanOam p ly (List.range 40) 10).foldl (fun b i => (List.range 8).foldl (drawSpritePixel p ly i) b)
    { b with owned := List.replicate 160 false }

/-- `renderLine(ly)` as R820's own loops. -/
def drawLine (p : Ppu) (ly : Nat) (b : LineBuffer) : LineBuffer :=
  let bg :=
    if p.lcdc.getLsbD 0 then
      let b1 := (List.range 160).foldl (drawBackground p ly) b
      if p.lcdc.getLsbD 5 then drawWindow p ly b1 else b1
    else (List.range 160).foldl (fun b x => { b with index := b.index.set x 0, row := b.row.set x 0 }) b
  if p.lcdc.getLsbD 1 then drawSprites p ly bg else bg

end Sys2Proof.Machine
end

