-- ==== Sys2Proof/Certificates/Slice0/Obligations.lean ====
section
/-! DEFINITION. The statements for the provers, each from the numbered rules of spec/ its docstring and OBLIGATIONS.json cite. -/

open Sys2Proof Sys2Proof.Machine

/-- Decoding the encoding of a well-formed instruction gives it back (R301, R314, R318). -/
def Obligations.DecodeOfEncode : Prop :=
  ∀ (sl : StopLength) (i : Instr) (rest : List Byte), i.wellFormed = true →
    decode sl (encode sl i ++ rest) = .ok (i, rest)

/-- Any three bytes decode to a well-formed instruction whose encoding they begin with (R319, R320, R321, R322). -/
def Obligations.DecoderIsTotal : Prop :=
  ∀ (sl : StopLength) (b0 b1 b2 : Byte) (rest : List Byte),
    decode sl (b0 :: b1 :: b2 :: rest) =
      .ok (decodeBytes b0 b1 b2, (b0 :: b1 :: b2 :: rest).drop ((decodeBytes b0 b1 b2).length sl)) ∧
    (decodeBytes b0 b1 b2).wellFormed = true ∧
    (b0 = 0x10 → decodeBytes b0 b1 b2 = .stop) ∧
    (b0 ≠ 0x10 → encode sl (decodeBytes b0 b1 b2) = [b0, b1, b2].take ((decodeBytes b0 b1 b2).length sl))

/-- An instruction is 1, 2 or 3 bytes, fixed by its first byte (R300). -/
def Obligations.LengthFixedByFirstByte : Prop :=
  ∀ (sl : StopLength) (i j : Instr), i.wellFormed = true → j.wellFormed = true →
    (i.length sl = 1 ∨ i.length sl = 2 ∨ i.length sl = 3) ∧
    ((encode sl i).head? = (encode sl j).head? → i.length sl = j.length sl) ∧
    ((encode sl i).head? = some 0xCB → i.length sl = 2) ∧
    Instr.stop.length sl = (match sl with | .one => 1 | .two => 2)

/-- A few words written out from the opcode maps decode to their instructions (R310, R314, R318). -/
def Obligations.DecodedWordsOfTheTable : Prop :=
  decodeBytes 0x00 0x11 0x22 = .nop ∧
  decodeBytes 0x21 0xEF 0xBE = .ldHlD16 0xBEEF ∧
  decodeBytes 0x08 0x00 0xC1 = .ldAtA16Sp 0xC100 ∧
  decodeBytes 0x20 0xFC 0x00 = .jrNzE8 0xFC ∧
  decodeBytes 0x76 0x00 0x00 = .halt ∧
  decodeBytes 0x9E 0x00 0x00 = .sbcAAtHl ∧
  decodeBytes 0xCD 0x34 0x12 = .callA16 0x1234 ∧
  decodeBytes 0xEF 0x00 0x00 = .rst28 ∧
  decodeBytes 0xDD 0x00 0x00 = .illegalDD ∧
  decodeBytes 0xCB 0x7C 0x00 = .bit7H ∧
  decodeBytes 0xCB 0x86 0x00 = .res0AtHl ∧
  decodeBytes 0xCB 0xDE 0x00 = .set3AtHl

/-- A step runs the instruction whose bytes stand at PC (R321, R904, R905). What one step of the model is, is log entry 4
(DESIGN CHOICE). -/
def Obligations.StepRunsTheFetchedInstruction : Prop :=
  ∀ (i : Instr) (s t : State), s.sched.runState ≠ .paused → s.cpu.halted = false → s.cpu.stopped = false →
    i.wellFormed = true →
    (∀ k < i.length s.cfg.stopLength,
      some (read8 s (s.cpu.pc + BitVec.ofNat 16 k)) = (encode s.cfg.stopLength i)[k]? ∨ (i = .stop ∧ k = 1)) →
    exec i { s with cpu.pc := s.cpu.pc + BitVec.ofNat 16 (i.length s.cfg.stopLength) } = .next t →
    step s = .next (frameEnd (dispatchStep (deviceStep (instrCost s.cfg i) (addCycles (instrCost s.cfg i) t))))

/-- A halted or stopped CPU fetches nothing and costs HALT_STEP_CYCLES; a paused scheduler does nothing (R321, R601, R602,
R904, R905, R910). That a paused step changes nothing, and that one step is an iteration, a dispatch check and a frame
end test, is the model's choice of a step (log entry 4, DESIGN CHOICE). -/
def Obligations.IdleStepFetchesNothing : Prop :=
  ∀ s : State,
    (s.sched.runState = .paused → step s = .next s ∧ hostStep s = .next s) ∧
    (s.sched.runState ≠ .paused → s.cpu.halted = true ∨ s.cpu.stopped = true →
      ∃ u, u = deviceStep s.cfg.haltStepCycles (addCycles s.cfg.haltStepCycles s) ∧
        step s = .next (frameEnd (dispatchStep u)) ∧
        CpuIs u { s.cpu with cycles := s.cpu.cycles + s.cfg.haltStepCycles })

/-- Every instruction in every state, and every step, answers a next state (R700, R202, R203). -/
def Obligations.NothingTraps : Prop :=
  (∀ (i : Instr) (s : State), ∃ t, exec i s = .next t) ∧
  (∀ s : State, ∃ t, step s = .next t) ∧
  (∀ s : State, ∃ t, hostStep s = .next t) ∧
  (∀ s : State, ∃ t, hostCpuStep s = .next t)

/-- LD r,r', LD r,d8 and LD r,(HL) set the register and nothing else (R402, R403, R404). -/
def Obligations.LoadRegister : Prop :=
  (∀ (dst src : R8) (s : State), CodedAs (.ldReg dst src) [opByte (0x40 + 8 * dst.code + src.code)] 4 ∧
    SetsReg (.ldReg dst src) s dst (reg8 s src) s.cpu.f) ∧
  (∀ (dst : R8) (d8 : Byte) (s : State), CodedAs (.ldRegImm dst d8) [opByte (0x06 + 8 * dst.code), d8] 8 ∧
    SetsReg (.ldRegImm dst d8) s dst d8 s.cpu.f) ∧
  (∀ (dst : R8) (s : State), CodedAs (.ldRegAtHl dst) [opByte (0x46 + 8 * dst.code)] 8 ∧
    SetsReg (.ldRegAtHl dst) s dst (read8 s (hl s)) s.cpu.f)

/-- LD (HL),r and LD (HL),d8 store one byte at HL (R405, R406). -/
def Obligations.StoreAtHl : Prop :=
  (∀ (src : R8) (s : State), CodedAs (.ldAtHlReg src) [opByte (0x70 + src.code)] 8 ∧
    StoresByte (.ldAtHlReg src) s (hl s) (reg8 s src) s.cpu) ∧
  (∀ (d8 : Byte) (s : State), CodedAs (.ldAtHlD8 d8) [0x36, d8] 12 ∧
    StoresByte (.ldAtHlD8 d8) s (hl s) d8 s.cpu)

/-- LD A,(BC), LD A,(DE), LD A,(a16), LDH A,(a8) and LD A,(C) load A from their address (R407, R408, R411, R413, R415). -/
def Obligations.LoadAFromAddress : Prop :=
  ∀ (a16 : Word) (a8 : Byte) (s : State),
    (CodedAs .ldAAtBc [0x0A] 8 ∧ SetsReg .ldAAtBc s .a (read8 s (bc s)) s.cpu.f) ∧
    (CodedAs .ldAAtDe [0x1A] 8 ∧ SetsReg .ldAAtDe s .a (read8 s (de s)) s.cpu.f) ∧
    (CodedAs (.ldAAtA16 a16) [0xFA, loByte a16, hiByte a16] 16 ∧ SetsReg (.ldAAtA16 a16) s .a (read8 s a16) s.cpu.f) ∧
    (CodedAs (.ldhAAtA8 a8) [0xF0, a8] 12 ∧ SetsReg (.ldhAAtA8 a8) s .a (read8 s (0xFF00 + a8.setWidth 16)) s.cpu.f) ∧
    (CodedAs .ldAAtC [0xF2] 8 ∧ SetsReg .ldAAtC s .a (read8 s (0xFF00 + s.cpu.c.setWidth 16)) s.cpu.f)

/-- LD (BC),A, LD (DE),A, LD (a16),A, LDH (a8),A and LD (C),A store A at their address (R409, R410, R412, R414, R416). -/
def Obligations.StoreAAtAddress : Prop :=
  ∀ (a16 : Word) (a8 : Byte) (s : State),
    (CodedAs .ldAtBcA [0x02] 8 ∧ StoresByte .ldAtBcA s (bc s) s.cpu.a s.cpu) ∧
    (CodedAs .ldAtDeA [0x12] 8 ∧ StoresByte .ldAtDeA s (de s) s.cpu.a s.cpu) ∧
    (CodedAs (.ldAtA16A a16) [0xEA, loByte a16, hiByte a16] 16 ∧ StoresByte (.ldAtA16A a16) s a16 s.cpu.a s.cpu) ∧
    (CodedAs (.ldhAtA8A a8) [0xE0, a8] 12 ∧ StoresByte (.ldhAtA8A a8) s (0xFF00 + a8.setWidth 16) s.cpu.a s.cpu) ∧
    (CodedAs .ldAtCA [0xE2] 8 ∧ StoresByte .ldAtCA s (0xFF00 + s.cpu.c.setWidth 16) s.cpu.a s.cpu)

/-- LD (HL+),A, LD (HL-),A, LD A,(HL+) and LD A,(HL-) access HL and then step it mod 2^16 (R417, R418, R419, R420). -/
def Obligations.LoadAndStoreAStepHl : Prop :=
  ∀ s : State,
    (CodedAs .ldAtHliA [0x22] 8 ∧ StoresByte .ldAtHliA s (hl s) s.cpu.a
      { s.cpu with h := hiByte (hl s + 1), l := loByte (hl s + 1) }) ∧
    (CodedAs .ldAtHldA [0x32] 8 ∧ StoresByte .ldAtHldA s (hl s) s.cpu.a
      { s.cpu with h := hiByte (hl s - 1), l := loByte (hl s - 1) }) ∧
    (CodedAs .ldAAtHli [0x2A] 8 ∧ SetsCpu .ldAAtHli s
      { s.cpu with a := read8 s (hl s), h := hiByte (hl s + 1), l := loByte (hl s + 1) }) ∧
    (CodedAs .ldAAtHld [0x3A] 8 ∧ SetsCpu .ldAAtHld s
      { s.cpu with a := read8 s (hl s), h := hiByte (hl s - 1), l := loByte (hl s - 1) })

/-- LD rr,d16 and LD SP,HL set the pair and nothing else (R421, R422). -/
def Obligations.LoadPair : Prop :=
  (∀ (p : R16) (d16 : Word) (s : State), CodedAs (.ldPair p d16) [opByte (0x01 + 16 * p.code), loByte d16, hiByte d16] 12 ∧
    SetsPair (.ldPair p d16) s p d16 s.cpu.f) ∧
  (∀ s : State, CodedAs .ldSpHl [0xF9] 8 ∧ SetsPair .ldSpHl s .sp (hl s) s.cpu.f)

/-- LD (a16),SP stores SP at a16, low byte first (R423). -/
def Obligations.StoreSpAtAddress : Prop :=
  ∀ (a16 : Word) (s : State), CodedAs (.ldAtA16Sp a16) [0x08, loByte a16, hiByte a16] 20 ∧
    StoresWord (.ldAtA16Sp a16) s a16 s.cpu.sp s.cpu ∧
    write16 a16 s.cpu.sp s = write8 (a16 + 1) (hiByte s.cpu.sp) (write8 a16 (loByte s.cpu.sp) s)

/-- PUSH stores the pair at SP - 2; POP reads it back from SP, POP AF clearing the low nibble of F (R400, R401, R424,
R425, R426, R427). -/
def Obligations.PushAndPopPair : Prop :=
  (∀ (p : R16Stack) (s : State), CodedAs (.push p) [opByte (0xC5 + 16 * p.code)] 16 ∧
    StoresWord (.push p) s (s.cpu.sp - 2)
      (match p with | .bc => bc s | .de => de s | .hl => hl s | .af => joinBytes s.cpu.a s.cpu.f)
      { s.cpu with sp := s.cpu.sp - 2 }) ∧
  (∀ s : State,
    (CodedAs (.pop .bc) [0xC1] 12 ∧
      SetsCpu (.pop .bc) s { s.cpu with b := read8 s (s.cpu.sp + 1), c := read8 s s.cpu.sp, sp := s.cpu.sp + 2 }) ∧
    (CodedAs (.pop .de) [0xD1] 12 ∧
      SetsCpu (.pop .de) s { s.cpu with d := read8 s (s.cpu.sp + 1), e := read8 s s.cpu.sp, sp := s.cpu.sp + 2 }) ∧
    (CodedAs (.pop .hl) [0xE1] 12 ∧
      SetsCpu (.pop .hl) s { s.cpu with h := read8 s (s.cpu.sp + 1), l := read8 s s.cpu.sp, sp := s.cpu.sp + 2 }) ∧
    (CodedAs (.pop .af) [0xF1] 12 ∧
      SetsCpu (.pop .af) s
        { s.cpu with a := read8 s (s.cpu.sp + 1), f := read8 s s.cpu.sp &&& 0xF0, sp := s.cpu.sp + 2 }))

/-- ADD and ADC: A becomes the sum mod 2^8, with Z, N, H, C as the rule gives them (R450, R453, R454, R455, R456, R457,
R458). -/
def Obligations.AddToA : Prop :=
  ∀ (carry : Bool) (src : Src8) (s : State),
    let op : AluOp := if carry then .adc else .add
    let v := readSrc s src
    let c := if carry then (flagC s).toNat else 0
    let r := opByte (s.cpu.a.toNat + v.toNat + c)
    CodedAs (.alu op src) (aluBytes (if carry then 1 else 0) src) (aluCycles src) ∧
    SetsReg (.alu op src) s .a r
      (packFlags { z := decide (r = 0), n := false,
                   h := decide ((s.cpu.a &&& 0x0F).toNat + (v &&& 0x0F).toNat + c > 0x0F),
                   c := decide (s.cpu.a.toNat + v.toNat + c > 0xFF) })

/-- SUB and SBC: A becomes the difference mod 2^8, with Z, N, H, C as the rule gives them (R451, R459, R460, R461, R462,
R463, R464). -/
def Obligations.SubtractFromA : Prop :=
  ∀ (borrow : Bool) (src : Src8) (s : State),
    let op : AluOp := if borrow then .sbc else .sub
    let v := readSrc s src
    let c := if borrow then (flagC s).toNat else 0
    let r := s.cpu.a - v - opByte c
    CodedAs (.alu op src) (aluBytes (if borrow then 3 else 2) src) (aluCycles src) ∧
    SetsReg (.alu op src) s .a r
      (packFlags { z := decide (r = 0), n := true,
                   h := decide ((s.cpu.a &&& 0x0F).toNat < (v &&& 0x0F).toNat + c),
                   c := decide (s.cpu.a.toNat < v.toNat + c) })

/-- AND, XOR and OR: A becomes the bitwise result; AND sets H, the others clear it (R452, R465, R466, R467, R468, R469,
R470, R471, R472, R473). -/
def Obligations.LogicOnA : Prop :=
  ∀ (src : Src8) (s : State),
    (CodedAs (.alu .and src) (aluBytes 4 src) (aluCycles src) ∧
      SetsReg (.alu .and src) s .a (s.cpu.a &&& readSrc s src)
        (packFlags { z := decide (s.cpu.a &&& readSrc s src = 0), n := false, h := true, c := false })) ∧
    (CodedAs (.alu .xor src) (aluBytes 5 src) (aluCycles src) ∧
      SetsReg (.alu .xor src) s .a (s.cpu.a ^^^ readSrc s src)
        (packFlags { z := decide (s.cpu.a = readSrc s src), n := false, h := false, c := false })) ∧
    (CodedAs (.alu .or src) (aluBytes 6 src) (aluCycles src) ∧
      SetsReg (.alu .or src) s .a (s.cpu.a ||| readSrc s src)
        (packFlags { z := decide (s.cpu.a ||| readSrc s src = 0), n := false, h := false, c := false }))

/-- CP sets the flags of a subtraction and leaves A (R474, R475, R476). -/
def Obligations.CompareWithA : Prop :=
  ∀ (src : Src8) (s : State),
    let v := readSrc s src
    CodedAs (.alu .cp src) (aluBytes 7 src) (aluCycles src) ∧
    SetsCpu (.alu .cp src) s
      { s.cpu with f := packFlags { z := decide (s.cpu.a = v), n := true,
                                    h := decide ((s.cpu.a &&& 0x0F).toNat < (v &&& 0x0F).toNat),
                                    c := decide (s.cpu.a.toNat < v.toNat) } }

/-- INC and DEC of a register or of the byte at HL step it mod 2^8 and leave C (R477, R478, R479, R480). -/
def Obligations.IncrementDecrementByte : Prop :=
  (∀ (r : R8) (s : State),
    (CodedAs (.incLoc (.reg r)) [opByte (0x04 + 8 * r.code)] 4 ∧
      SetsReg (.incLoc (.reg r)) s r (reg8 s r + 1)
        (packFlags { z := decide (reg8 s r = 0xFF), n := false, h := decide (reg8 s r &&& 0x0F = 0x0F), c := flagC s })) ∧
    (CodedAs (.decLoc (.reg r)) [opByte (0x05 + 8 * r.code)] 4 ∧
      SetsReg (.decLoc (.reg r)) s r (reg8 s r - 1)
        (packFlags { z := decide (reg8 s r = 0x01), n := true, h := decide (reg8 s r &&& 0x0F = 0), c := flagC s }))) ∧
  (∀ s : State,
    let old := read8 s (hl s)
    (CodedAs .incAtHl [0x34] 12 ∧ StoresByte .incAtHl s (hl s) (old + 1)
      { s.cpu with f := packFlags { z := decide (old = 0xFF), n := false, h := decide (old &&& 0x0F = 0x0F), c := flagC s } }) ∧
    (CodedAs .decAtHl [0x35] 12 ∧ StoresByte .decAtHl s (hl s) (old - 1)
      { s.cpu with f := packFlags { z := decide (old = 0x01), n := true, h := decide (old &&& 0x0F = 0), c := flagC s } }))

/-- DAA corrects A by the rule, for every A, N, H and C (R481). -/
def Obligations.DecimalAdjust : Prop :=
  ∀ s : State,
    let carry := flagC s || (!flagN s && decide (s.cpu.a.toNat > 0x99))
    let high : Byte := if carry then (if flagN s then s.cpu.a - 0x60 else s.cpu.a + 0x60) else s.cpu.a
    let low : Byte :=
      if flagN s then (if flagH s then high - 0x06 else high)
      else if flagH s = true ∨ (high &&& 0x0F).toNat > 0x09 then high + 0x06 else high
    CodedAs .daa [0x27] 4 ∧
    SetsReg .daa s .a low (packFlags { z := decide (low = 0), n := flagN s, h := false, c := carry })

/-- ADD then DAA adds in BCD, SUB then DAA subtracts in BCD (R481, R455, R461). -/
def Obligations.DecimalAdjustGivesBcd : Prop :=
  ∀ (x y : Nat) (s : State), x < 100 → y < 100 → s.cpu.a = bcdByte x →
    (∃ t u, exec (.addAD8 (bcdByte y)) s = .next t ∧ exec .daa t = .next u ∧
      u.cpu.a = bcdByte ((x + y) % 100) ∧ flagC u = decide (100 ≤ x + y)) ∧
    (∃ t u, exec (.subD8 (bcdByte y)) s = .next t ∧ exec .daa t = .next u ∧
      u.cpu.a = bcdByte ((x + 100 - y) % 100) ∧ flagC u = decide (x < y))

/-- CPL, SCF and CCF (R482, R483, R484). -/
def Obligations.ComplementAndCarry : Prop :=
  ∀ s : State,
    (CodedAs .cpl [0x2F] 4 ∧
      SetsReg .cpl s .a (~~~ s.cpu.a) (packFlags { z := flagZ s, n := true, h := true, c := flagC s })) ∧
    (CodedAs .scf [0x37] 4 ∧
      SetsCpu .scf s { s.cpu with f := packFlags { z := flagZ s, n := false, h := false, c := true } }) ∧
    (CodedAs .ccf [0x3F] 4 ∧
      SetsCpu .ccf s { s.cpu with f := packFlags { z := flagZ s, n := false, h := false, c := !flagC s } })

/-- F holds Z, N, H, C in bits 7 to 4 and its low nibble is 0 (R102, R103). -/
def Obligations.FlagBitsOfF : Prop :=
  (∀ fl : Flags, (packFlags fl).getLsbD 7 = fl.z ∧ (packFlags fl).getLsbD 6 = fl.n ∧ (packFlags fl).getLsbD 5 = fl.h ∧
    (packFlags fl).getLsbD 4 = fl.c ∧ packFlags fl &&& 0x0F = 0) ∧
  (∀ (v : Byte) (s : State), (setF v s).cpu.f &&& 0x0F = 0 ∧ (setF v s).cpu.f &&& 0xF0 = v &&& 0xF0) ∧
  (∀ (fl : Flags) (s : State), flagsOf (setFlags fl s) = fl)

/-- INC rr and DEC rr step the pair mod 2^16 and leave the flags (R500, R501). -/
def Obligations.IncrementDecrementPair : Prop :=
  ∀ (p : R16) (s : State),
    (CodedAs (.incPair p) [opByte (0x03 + 16 * p.code)] 8 ∧ SetsPair (.incPair p) s p (reg16 s p + 1) s.cpu.f) ∧
    (CodedAs (.decPair p) [opByte (0x0B + 16 * p.code)] 8 ∧ SetsPair (.decPair p) s p (reg16 s p - 1) s.cpu.f)

/-- ADD HL,rr: HL becomes the sum mod 2^16, H and C the carries out of bits 11 and 15 (R502). -/
def Obligations.AddPairToHl : Prop :=
  ∀ (p : R16) (s : State),
    let v := reg16 s p
    CodedAs (.addHl p) [opByte (0x09 + 16 * p.code)] 8 ∧
    SetsPair (.addHl p) s .hl (hl s + v)
      (packFlags { z := flagZ s, n := false,
                   h := decide ((hl s &&& 0x0FFF).toNat + (v &&& 0x0FFF).toNat > 0x0FFF),
                   c := decide ((hl s).toNat + v.toNat > 0xFFFF) })

/-- ADD SP,e8 and LD HL,SP+e8: the signed sum, with H and C from the unsigned low bytes (R503, R504). -/
def Obligations.AddDisplacementToSp : Prop :=
  ∀ (e8 : Byte) (s : State),
    let f := packFlags { z := false, n := false,
                         h := decide ((s.cpu.sp &&& 0x0F).toNat + (e8 &&& 0x0F).toNat > 0x0F),
                         c := decide ((s.cpu.sp &&& 0xFF).toNat + e8.toNat > 0xFF) }
    (CodedAs (.addSpE8 e8) [0xE8, e8] 16 ∧ SetsPair (.addSpE8 e8) s .sp (s.cpu.sp + e8.signExtend 16) f) ∧
    (CodedAs (.ldHlSpE8 e8) [0xF8, e8] 12 ∧ SetsPair (.ldHlSpE8 e8) s .hl (s.cpu.sp + e8.signExtend 16) f)

/-- RLCA, RRCA, RLA, RRA rotate A and always clear Z (R530, R531, R532, R533). -/
def Obligations.RotateA : Prop :=
  ∀ (op : RotOp) (i : Instr) (s : State), Instr.rotA op = some i →
    CodedAs i [opByte (0x07 + 8 * op.code)] 4 ∧
    SetsReg i s .a (rotSpec s.cpu.a (flagC s) op).1
      (packFlags { z := false, n := false, h := false, c := (rotSpec s.cpu.a (flagC s) op).2 })

/-- The CB rotates and shifts of a register (R535, R537, R539, R541, R543, R545, R547, R549). -/
def Obligations.RotateShiftRegister : Prop :=
  ∀ (op : RotOp) (r : R8) (s : State),
    let w := rotSpec (reg8 s r) (flagC s) op
    CodedAs (.rot op (.reg r)) [0xCB, opByte (8 * op.code + r.code)] 8 ∧
    SetsReg (.rot op (.reg r)) s r w.1 (packFlags { z := decide (w.1 = 0), n := false, h := false, c := w.2 })

/-- The CB rotates and shifts of the byte at HL (R536, R538, R540, R542, R544, R546, R548, R550). -/
def Obligations.RotateShiftAtHl : Prop :=
  ∀ (op : RotOp) (s : State),
    let w := rotSpec (read8 s (hl s)) (flagC s) op
    CodedAs (.rot op .atHl) [0xCB, opByte (8 * op.code + 6)] 16 ∧
    StoresByte (.rot op .atHl) s (hl s) w.1
      { s.cpu with f := packFlags { z := decide (w.1 = 0), n := false, h := false, c := w.2 } }

/-- BIT b: Z is the complement of the tested bit; nothing else but N and H changes (R551, R552). -/
def Obligations.TestBit : Prop :=
  ∀ (b : Fin 8) (x : Loc8) (s : State),
    CodedAs (.bit b x) [0xCB, opByte (0x40 + 8 * b.val + x.code)] (if x = .atHl then 12 else 8) ∧
    SetsCpu (.bit b x) s
      { s.cpu with f := packFlags { z := !((readLoc s x).getLsbD b.val), n := false, h := true, c := flagC s } }

/-- RES b and SET b clear or set one bit of a register or of the byte at HL, and no flag (R553, R554, R555, R556). -/
def Obligations.ResetAndSetBit : Prop :=
  ∀ (b : Fin 8) (r : R8) (s : State),
    let m : Byte := (1 : Byte) <<< b.val
    (CodedAs (.res b (.reg r)) [0xCB, opByte (0x80 + 8 * b.val + r.code)] 8 ∧
      SetsReg (.res b (.reg r)) s r (reg8 s r &&& ~~~ m) s.cpu.f) ∧
    (CodedAs (.set b (.reg r)) [0xCB, opByte (0xC0 + 8 * b.val + r.code)] 8 ∧
      SetsReg (.set b (.reg r)) s r (reg8 s r ||| m) s.cpu.f) ∧
    (CodedAs (.res b .atHl) [0xCB, opByte (0x86 + 8 * b.val)] 16 ∧
      StoresByte (.res b .atHl) s (hl s) (read8 s (hl s) &&& ~~~ m) s.cpu) ∧
    (CodedAs (.set b .atHl) [0xCB, opByte (0xC6 + 8 * b.val)] 16 ∧
      StoresByte (.set b .atHl) s (hl s) (read8 s (hl s) ||| m) s.cpu)

/-- JP and JR set PC; a conditional one sets it exactly when its condition holds, at the same cost either way (R570, R571,
R572, R573, R574, R575). -/
def Obligations.Jumps : Prop :=
  ∀ (cc : Cond) (a16 : Word) (e8 : Byte) (s : State),
    let rel := s.cpu.pc + e8.signExtend 16
    let holds : Bool := match cc with | .nz => !flagZ s | .z => flagZ s | .nc => !flagC s | .c => flagC s
    (CodedAs (.jpA16 a16) [0xC3, loByte a16, hiByte a16] 16 ∧ SetsCpu (.jpA16 a16) s { s.cpu with pc := a16 }) ∧
    (CodedCond (.jpCond cc a16) [opByte (0xC2 + 8 * cc.code), loByte a16, hiByte a16] 12 16 ∧
      SetsCpu (.jpCond cc a16) s (if holds then { s.cpu with pc := a16 } else s.cpu)) ∧
    (CodedAs .jpHl [0xE9] 4 ∧ SetsCpu .jpHl s { s.cpu with pc := hl s }) ∧
    (CodedAs (.jrE8 e8) [0x18, e8] 12 ∧ SetsCpu (.jrE8 e8) s { s.cpu with pc := rel }) ∧
    (CodedCond (.jrCond cc e8) [opByte (0x20 + 8 * cc.code), e8] 8 12 ∧
      SetsCpu (.jrCond cc e8) s (if holds then { s.cpu with pc := rel } else s.cpu))

/-- CALL and RST push PC and jump; a conditional CALL does so exactly when its condition holds (R576, R577, R581). -/
def Obligations.CallsAndRestarts : Prop :=
  ∀ (cc : Cond) (y : Fin 8) (a16 : Word) (s : State),
    let holds : Bool := match cc with | .nz => !flagZ s | .z => flagZ s | .nc => !flagC s | .c => flagC s
    let bytes : Byte → List Byte := fun op => [op, loByte a16, hiByte a16]
    (CodedAs (.callA16 a16) (bytes 0xCD) 24 ∧
      StoresWord (.callA16 a16) s (s.cpu.sp - 2) s.cpu.pc { s.cpu with sp := s.cpu.sp - 2, pc := a16 }) ∧
    CodedCond (.callCond cc a16) (bytes (opByte (0xC4 + 8 * cc.code))) 12 24 ∧
    (holds = true →
      StoresWord (.callCond cc a16) s (s.cpu.sp - 2) s.cpu.pc { s.cpu with sp := s.cpu.sp - 2, pc := a16 }) ∧
    (holds = false → SetsCpu (.callCond cc a16) s s.cpu) ∧
    (CodedAs (.rst y) [opByte (0xC7 + 8 * y.val)] 16 ∧
      StoresWord (.rst y) s (s.cpu.sp - 2) s.cpu.pc
        { s.cpu with sp := s.cpu.sp - 2, pc := BitVec.ofNat 16 (8 * y.val) })

/-- RET, RET cc and RETI pop PC; RETI sets IME (R578, R579, R580). -/
def Obligations.Returns : Prop :=
  ∀ (cc : Cond) (s : State),
    let holds : Bool := match cc with | .nz => !flagZ s | .z => flagZ s | .nc => !flagC s | .c => flagC s
    let back := { s.cpu with pc := joinBytes (read8 s (s.cpu.sp + 1)) (read8 s s.cpu.sp), sp := s.cpu.sp + 2 }
    (CodedAs .ret [0xC9] 16 ∧ SetsCpu .ret s back) ∧
    (CodedCond (.retCond cc) [opByte (0xC0 + 8 * cc.code)] 8 20 ∧
      SetsCpu (.retCond cc) s (if holds then back else s.cpu)) ∧
    (CodedAs .reti [0xD9] 16 ∧ SetsCpu .reti s { back with ime := true })

/-- NOP and the unrecognized opcodes change nothing; DI, EI, HALT and STOP set their one bit (R600, R601, R602, R603,
R604, R606). -/
def Obligations.SystemInstructions : Prop :=
  ∀ (u : Unrecognized) (s : State),
    (CodedAs .nop [0x00] 4 ∧ SetsCpu .nop s s.cpu) ∧
    (CodedAs .di [0xF3] 4 ∧ SetsCpu .di s { s.cpu with ime := false }) ∧
    (CodedAs .ei [0xFB] 4 ∧ SetsCpu .ei s { s.cpu with ime := true }) ∧
    (CodedAs .halt [0x76] 4 ∧ SetsCpu .halt s { s.cpu with halted := true }) ∧
    ((∀ cfg : Config, encode cfg.stopLength .stop = (match cfg.stopLength with | .one => [0x10] | .two => [0x10, 0x00]) ∧
        instrCost cfg .stop = 4) ∧
      SetsCpu .stop s { s.cpu with stopped := true }) ∧
    ((∀ cfg : Config, encode cfg.stopLength (.illegal u) = [u.opcode] ∧ instrCost cfg (.illegal u) = cfg.illegalOpcodeCycles) ∧
      SetsCpu (.illegal u) s s.cpu)

/-- The CB prefix runs the CB entry of the byte at PC (R605, R321). -/
def Obligations.PrefixRunsItsCbEntry : Prop :=
  ∀ s : State,
    exec .prefixCb s = exec (cbEntryOf (read8 s s.cpu.pc)) { s with cpu.pc := s.cpu.pc + 1 } ∧
    ∃ t, exec .prefixCb s = .next t

/-- Serving a source clears its IF bit, IME and halted, pushes PC and jumps to the vector (R707, R710). -/
def Obligations.TakingAnInterrupt : Prop :=
  ∀ (b : IntSource) (s : State),
    (s.cpu.ime = true →
      StoredAt16 { s with ic.reqs := s.ic.reqs &&& ~~~ ((1 : BitVec 5) <<< b.bit), ic.phase := .idle } (dispatch b s) (s.cpu.sp - 2) s.cpu.pc
        { s.cpu with ime := false, halted := false, sp := s.cpu.sp - 2, pc := BitVec.ofNat 16 (0x0040 + 8 * b.bit) }) ∧
    (∀ vector, s.cpu.ime = false → interrupt vector s = s)

/-- The dispatch check serves the lowest-numbered pending interrupt, and only with IME (R704, R705, R706, R708, R25,
R904). -/
def Obligations.DispatchCheck : Prop :=
  ∀ (s : State),
    let pending : IntSource → Bool := fun b => s.ic.ie.getLsbD b.bit && s.ic.reqs.getLsbD b.bit
    ((s.cpu.ime = false ∨ ∀ b, pending b = false) → checkAndDispatch s = s ∧ dispatchStep s = s) ∧
    (∀ b, s.cpu.ime = true → pending b = true → (∀ c : IntSource, c.bit < b.bit → pending c = false) →
      checkAndDispatch s = dispatch b s ∧
      dispatchStep s = deviceStep s.cfg.dispatchCycles (addCycles s.cfg.dispatchCycles (dispatch b s)))

/-- A request sets its IF bit and ends a HALT; a press also ends a STOP; a repeated press does nothing (R702, R703, R717,
R718). -/
def Obligations.RequestsAndButtons : Prop :=
  ∀ (b : IntSource) (key : Button) (s : State),
    request b s = { s with ic.reqs := s.ic.reqs ||| ((1 : BitVec 5) <<< b.bit), cpu.halted := false } ∧
    (s.joy.pressed key = true → press key s = s) ∧
    (s.joy.pressed key = false →
      press key s = { s with joy := s.joy.setPressed key true, cpu.stopped := false, cpu.halted := false,
                             ic.reqs := s.ic.reqs ||| 0x10 }) ∧
    release key s = { s with joy := s.joy.setPressed key false } ∧
    (∀ (a : Word) (v : Byte) (n : Nat) (c : IntSource),
      (write8 a v s).cpu.stopped = s.cpu.stopped ∧ (mmuStep n s).cpu.stopped = s.cpu.stopped ∧
      (dispatch c s).cpu.stopped = s.cpu.stopped)

/-- A byte stored in RAM reads back (R207, R209, R210, R212, R215, R216, R227, R270, R271). That MBC2 RAM reads back with
upper nibble 0 is log entry 16 (DESIGN CHOICE; D36, 93_implementation_defined.md item 17: any value). -/
def Obligations.StoredByteReadsBack : Prop :=
  ∀ (a : Word) (v : Byte) (s : State),
    (0xC000 ≤ a.toNat ∧ a.toNat < 0xFE00 ∨ 0xFF80 ≤ a.toNat → read8 (write8 a v s) a = v) ∧
    (0x8000 ≤ a.toNat ∧ a.toNat < 0xA000 → s.ppu.mode ≠ .vram → read8 (write8 a v s) a = v) ∧
    (0xFE00 ≤ a.toNat ∧ a.toNat < 0xFEA0 → s.ppu.mode ≠ .vram → s.ppu.mode ≠ .oam → read8 (write8 a v s) a = v) ∧
    (0xA000 ≤ a.toNat ∧ a.toNat < 0xC000 → (extKey s.cart (a.toNat - 0xA000)).isSome = true →
      read8 (write8 a v s) a = if s.cart.kind = .mbc2 then v &&& 0x0F else v)

/-- The echo is the work RAM; the unusable region reads 0xFF and drops writes; so do locked VRAM and OAM and LY (R207,
R210, R212, R213, R124). -/
def Obligations.EchoAndDroppedWrites : Prop :=
  ∀ (a : Word) (v : Byte) (s : State),
    (0xE000 ≤ a.toNat → a.toNat < 0xFE00 → read8 s a = read8 s (a - 0x2000) ∧ write8 a v s = write8 (a - 0x2000) v s) ∧
    (0xFEA0 ≤ a.toNat → a.toNat < 0xFF00 → read8 s a = 0xFF ∧ write8 a v s = s) ∧
    (0x8000 ≤ a.toNat → a.toNat < 0xA000 → s.ppu.mode = .vram → write8 a v s = s) ∧
    (0xFE00 ≤ a.toNat → a.toNat < 0xFEA0 → s.ppu.mode = .vram ∨ s.ppu.mode = .oam → write8 a v s = s) ∧
    write8 0xFF44 v s = s

/-- What each I/O register reads after a write (R110, R113, R116, R122, R141, R145, R165, R761, R764). That a sound
register reads back the stored byte is log entry 16 (DESIGN CHOICE; D17, 93_implementation_defined.md item 18: any
value). -/
def Obligations.IoRegisterReadBack : Prop :=
  ∀ (v : Byte) (s : State),
    (read8 (write8 0xFF00 v s) 0xFF00 &&& 0xF0 = 0xC0 ||| (v &&& 0x30)) ∧
    (read8 (write8 0xFF04 v s) 0xFF04 = 0 ∧ (write8 0xFF04 v s).timer.divCounter = 0) ∧
    (read8 (write8 0xFF07 v s) 0xFF07 = 0xF8 ||| v ∧
      (v.getLsbD 2 = false → (write8 0xFF07 v s).timer.timaCounter = 0)) ∧
    (read8 (write8 0xFF0F v s) 0xFF0F = 0xE0 ||| v) ∧
    (read8 (write8 0xFF41 v s) 0xFF41 = 0x80 ||| (v &&& 0x78) ||| (read8 s 0xFF41 &&& 0x07)) ∧
    (∀ a ∈ ([0xFF05, 0xFF06, 0xFF40, 0xFF42, 0xFF43, 0xFF45, 0xFF46, 0xFF47, 0xFF48, 0xFF49, 0xFF4A, 0xFF4B] : List Word),
      read8 (write8 a v s) a = v) ∧
    (∀ a : Word, 0xFF10 ≤ a.toNat ∧ a.toNat ≤ 0xFF26 ∨ 0xFF30 ≤ a.toNat ∧ a.toNat ≤ 0xFF3F →
      read8 (write8 a v s) a = v) ∧
    (∀ a : Word, 0xFF01 ≤ a.toNat ∧ a.toNat ≤ 0xFF03 ∨ 0xFF08 ≤ a.toNat ∧ a.toNat ≤ 0xFF0E ∨
        0xFF27 ≤ a.toNat ∧ a.toNat ≤ 0xFF2F ∨ 0xFF4C ≤ a.toNat ∧ a.toNat ≤ 0xFF7F →
      read8 s a = 0xFF ∧ write8 a v s = s)

/-- A write of 0xFF46 copies 160 bytes into OAM, unless the mode locks OAM (R225). -/
def Obligations.OamDmaCopy : Prop :=
  ∀ (v : Byte) (s : State),
    let t := write8 0xFF46 v s
    t.ppu.dma = v ∧ { t with ppu.dma := s.ppu.dma, ppu.oam := s.ppu.oam } = s ∧
    (s.ppu.mode = .oam ∨ s.ppu.mode = .vram → t.ppu.oam = s.ppu.oam) ∧
    (s.ppu.mode = .hblank ∨ s.ppu.mode = .vblank → ∀ i < 160,
      t.ppu.oam.read i = read8 { s with ppu.dma := v } ((v.setWidth 16 <<< 8) + BitVec.ofNat 16 i))

/-- ROM windows and external RAM are bounds-checked reads of the image and the RAM array (R268, R269, R270). MBC2's upper
nibble 0 is log entry 16 (DESIGN CHOICE; D36, any value); the kind-None access and the 0xFF of disabled RAM are the
spec's own decision D37. -/
def Obligations.CartridgeReads : Prop :=
  ∀ (a : Word) (s : State),
    let e := s.cart.romBank.toNat * 0x4000 + (a.toNat - 0x4000)
    let x := (if s.cart.kind = .none then 0 else s.cart.ramBank.toNat * 0x2000) + (a.toNat - 0xA000)
    (a.toNat < 0x4000 → read8 s a = if a.toNat < s.cart.romLen then s.cart.rom.read a.toNat else 0xFF) ∧
    (0x4000 ≤ a.toNat → a.toNat < 0x8000 → read8 s a = if e < s.cart.romLen then s.cart.rom.read e else 0xFF) ∧
    (0xA000 ≤ a.toNat → a.toNat < 0xC000 → s.cart.kind ≠ .mbc2 →
      read8 s a = if (s.cart.kind = .none ∨ s.cart.ramEnabled = true) ∧ x < s.cart.ramLen then s.cart.ram.read x else 0xFF) ∧
    (0xA000 ≤ a.toNat → a.toNat < 0xC000 → s.cart.kind = .mbc2 →
      read8 s a = if s.cart.ramEnabled = true then s.cart.ram.read (a.toNat % 512) &&& 0x0F else 0xFF)

/-- The bank registers each kind loads on a write below 0x8000 (R272, R273, R274, R275, R276, R277, R278, R279, R283,
R280, R281, R282, R284, R285, R286, R287). -/
def Obligations.BankRegisterWrites : Prop :=
  ∀ (a : Word) (v : Byte) (s : State), a.toNat < 0x8000 →
    let t := write8 a v s
    let c := s.cart
    let n := v.toNat
    let atLeastOne : Nat → Nat := fun k => if k = 0 then 1 else k
    let enable : Cart := { c with ramEnabled := decide (n % 16 = 10) }
    t = { s with cart := t.cart } ∧
    (c.kind = .none → t.cart = c) ∧
    (c.kind = .mbc1 →
      (a.toNat < 0x2000 → t.cart = enable) ∧
      (0x2000 ≤ a.toNat → a.toNat < 0x4000 →
        t.cart = { c with romBank := BitVec.ofNat 9 (c.romBank.toNat / 32 % 4 * 32 + atLeastOne (n % 32)) }) ∧
      (0x4000 ≤ a.toNat → a.toNat < 0x6000 → c.bankingMode = true → t.cart = { c with ramBank := BitVec.ofNat 4 (n % 4) }) ∧
      (0x4000 ≤ a.toNat → a.toNat < 0x6000 → c.bankingMode = false →
        t.cart = { c with romBank := BitVec.ofNat 9 (n % 4 * 32 + c.romBank.toNat % 32) }) ∧
      (0x6000 ≤ a.toNat → t.cart = { c with bankingMode := decide (n % 2 = 1) })) ∧
    (c.kind = .mbc2 →
      (a.toNat < 0x4000 → a.toNat / 256 % 2 = 0 → t.cart = enable) ∧
      (a.toNat < 0x4000 → a.toNat / 256 % 2 = 1 → t.cart = { c with romBank := BitVec.ofNat 9 (atLeastOne (n % 16)) }) ∧
      (0x4000 ≤ a.toNat → t.cart = c)) ∧
    (c.kind = .mbc3 →
      (a.toNat < 0x2000 → t.cart = enable) ∧
      (0x2000 ≤ a.toNat → a.toNat < 0x4000 → t.cart = { c with romBank := BitVec.ofNat 9 (atLeastOne (n % 128)) }) ∧
      (0x4000 ≤ a.toNat → a.toNat < 0x6000 → t.cart = { c with ramBank := BitVec.ofNat 4 (n % 4) }) ∧
      (0x6000 ≤ a.toNat → t.cart = c)) ∧
    (c.kind = .mbc5 →
      (a.toNat < 0x2000 → t.cart = enable) ∧
      (0x2000 ≤ a.toNat → a.toNat < 0x3000 →
        t.cart = { c with romBank := BitVec.ofNat 9 (c.romBank.toNat / 256 * 256 + n) }) ∧
      (0x3000 ≤ a.toNat → a.toNat < 0x4000 →
        t.cart = { c with romBank := BitVec.ofNat 9 (n % 2 * 256 + c.romBank.toNat % 256) }) ∧
      (0x4000 ≤ a.toNat → a.toNat < 0x6000 → t.cart = { c with ramBank := BitVec.ofNat 4 (n % 16) }) ∧
      (0x6000 ≤ a.toNat → t.cart = c))

/-- The timer counts exactly, however the cycles are cut into steps; an overflow reloads TIMA and requests (R760, R765,
R766). -/
def Obligations.TimerTickAndRates : Prop :=
  (∀ (m n : Nat) (s : State), timerStep n (timerStep m s) = timerStep (m + n) s) ∧
  (∀ (n : Nat) (s : State), s.timer.divCounter < 256 →
    (timerStep n s).timer.divCounter < 256 ∧
    ((timerStep n s).timer.div.toNat * 256 + (timerStep n s).timer.divCounter) % 65536 =
      (s.timer.div.toNat * 256 + s.timer.divCounter + n) % 65536) ∧
  (∀ (n : Nat) (s : State), timerEnabled s.timer.tac = false →
    (timerStep n s).timer.tima = s.timer.tima ∧ (timerStep n s).timer.timaCounter = s.timer.timaCounter ∧
    (timerStep n s).ic = s.ic) ∧
  (∀ s : State, timerEnabled s.timer.tac = true → s.timer.timaCounter = 0 →
    timaStep ([1024, 16, 64, 256].getD (s.timer.tac.toNat % 4) 0) s = timaTick s) ∧
  (∀ s : State, (s.timer.tima = 0xFF → timaTick s = request .timer { s with timer.tima := s.timer.tma }) ∧
    (s.timer.tima ≠ 0xFF → timaTick s = { s with timer.tima := s.timer.tima + 1 }))

/-- A PPU step of m + n cycles is a step of m and one of n, and leaves the accumulator below the mode length (R802, R131). -/
def Obligations.PpuStepAdds : Prop :=
  ∀ (m n : Nat) (s : State), s.ppu.acc < s.ppu.mode.length →
    ppuStep n (ppuStep m s) = ppuStep (m + n) s ∧ (ppuStep n s).ppu.acc < (ppuStep n s).ppu.mode.length

/-- What each end of a PPU mode does (R803, R804, R805, R806, R807, R808, R812). -/
def Obligations.PpuModeTransitions : Prop :=
  (∀ (v : Byte) (s : State),
    setLY v s = requestIf (decide (v = s.ppu.lyc) && s.ppu.statEnables.getLsbD 3) .lcdStat
      { s with ppu.ly := v, ppu.coincidence := decide (v = s.ppu.lyc) }) ∧
  (∀ s : State,
    let t := { s with ppu.acc := s.ppu.acc - s.ppu.mode.length }
    let extra : Nat → Bool := fun k => s.cfg.statExtraSources && s.ppu.statEnables.getLsbD k
    let toOam : State → State := fun u => requestIf (extra 2) .lcdStat { u with ppu.mode := .oam }
    let toVBlank : State → State := fun u => requestIf (extra 1) .lcdStat
      (request .vblank { u with ppu.mode := .vblank, ppu.frameReady := true })
    let next := setLY (s.ppu.ly + 1) t
    (s.ppu.mode = .oam → ppuTransition s = { t with ppu.mode := .vram }) ∧
    (s.ppu.mode = .vram → ppuTransition s =
      requestIf (s.ppu.statEnables.getLsbD 0) .lcdStat
        { t with ppu := renderLine s.ppu.ly.toNat { t.ppu with mode := .hblank } }) ∧
    (s.ppu.mode = .hblank → ppuTransition s = if s.ppu.ly + 1 = 144 then toVBlank next else toOam next) ∧
    (s.ppu.mode = .vblank → ppuTransition s = if s.ppu.ly = 153 then toOam (setLY 0 t) else next))

/-- 456 cycles with the display on step LY by one and return to OAM mode; 65664 reach VBlank (R801, R805, R809). -/
def Obligations.PpuLineOf456Cycles : Prop :=
  ∀ s : State, displayOn s = true → s.ppu.mode = .oam → s.ppu.acc = 0 →
    (s.ppu.ly.toNat < 143 →
      (ppuStep 456 s).ppu.mode = .oam ∧ (ppuStep 456 s).ppu.acc = 0 ∧ (ppuStep 456 s).ppu.ly = s.ppu.ly + 1) ∧
    (s.ppu.ly = 0 →
      (ppuStep 65664 s).ppu.mode = .vblank ∧ (ppuStep 65664 s).ppu.ly = 144 ∧ (ppuStep 65664 s).ppu.frameReady = true ∧
      (ppuStep 70224 s).ppu.mode = .oam ∧ (ppuStep 70224 s).ppu.ly = 0 ∧ (ppuStep 70224 s).ppu.acc = 0)

/-- Turning the display off or on resets LY, mode and accumulator; a write that keeps bit 7 only stores; an off display
does nothing (R810, R811, R812, R814, R121). That enabling sets LY to 0 through SetLY is log entry 13 (DEDUCED). -/
def Obligations.DisplayEnableAndDisable : Prop :=
  ∀ (v : Byte) (n : Nat) (s : State),
    let t := { s with ppu.lcdc := v }
    (s.ppu.lcdc.getLsbD 7 = true → v.getLsbD 7 = false →
      write8 0xFF40 v s = { setLY 0 t with ppu := { (setLY 0 t).ppu with mode := .hblank, acc := 0 } }) ∧
    (s.ppu.lcdc.getLsbD 7 = false → v.getLsbD 7 = true →
      write8 0xFF40 v s = setLY 0 { t with ppu.mode := .oam, ppu.acc := 0 }) ∧
    (s.ppu.lcdc.getLsbD 7 = v.getLsbD 7 → write8 0xFF40 v s = t) ∧
    (s.ppu.lcdc.getLsbD 7 = false → ppuStep n s = s)

/-- A rendered line is what the loops of the spec draw: background, window, sprites with their priority; its row alone
changes (R820, R821, R822, R823, R824, R825, R827, R828, R829, R830, R831, R832). That the model computes each column
on its own is log entry 17 (DEDUCED); the last clause says that it is what the loops draw. -/
def Obligations.RenderedLine : Prop :=
  (∀ (ly : Nat) (p : Ppu) (k : Nat), k ≠ ly → (renderLine ly p).frame[k]? = p.frame[k]?) ∧
  (∀ (ly : Nat) (p : Ppu), ly < p.frame.length → ∃ row : List Shade, (renderLine ly p).frame[ly]? = some row ∧ row.length = 160 ∧
    (p.lcdc.getLsbD 0 = false → p.lcdc.getLsbD 1 = false → ∀ x < 160, row[x]? = some 0) ∧
    (p.lcdc.getLsbD 0 = true → p.lcdc.getLsbD 1 = false → p.lcdc.getLsbD 5 = false → p.lcdc.getLsbD 4 = true → ∀ x < 160,
      let bx := (x + p.scx.toNat) % 256
      let py := (ly + p.scy.toNat) % 256
      let idx := p.vram.read ((if p.lcdc.getLsbD 3 then 0x1C00 else 0x1800) + py / 8 * 32 + bx / 8)
      let lo := p.vram.read (idx.toNat * 16 + 2 * (py % 8))
      let hi := p.vram.read (idx.toNat * 16 + 2 * (py % 8) + 1)
      let ci := 2 * (hi.getLsbD (7 - bx % 8)).toNat + (lo.getLsbD (7 - bx % 8)).toNat
      row[x]? = some (BitVec.ofNat 2 (p.bgp.toNat / 4 ^ ci % 4)))) ∧
  (∀ (ly : Nat) (p : Ppu), (selectedSprites p ly).length ≤ 10 ∧ (selectedSprites p ly).Pairwise (· < ·) ∧
    ∀ i ∈ selectedSprites p ly, i < 40 ∧ (p.oam.read (4 * i)).toNat ≤ ly + 16 ∧
      ly + 16 < (p.oam.read (4 * i)).toNat + (if p.lcdc.getLsbD 2 then 16 else 8)) ∧
  (∀ (ly : Nat) (p : Ppu), selectedSprites p ly = scanOam p ly (List.range 40) 10) ∧
  (∀ (ly : Nat) (p : Ppu), ly < 144 → p.frame.length = 144 → (∀ row ∈ p.frame, row.length = 160) → p.bgIndex.length = 160 →
    p.objOwned.length = 160 →
    renderLine ly p =
      let b := drawLine p ly { row := p.frame.getD ly [], index := p.bgIndex, owned := p.objOwned }
      { p with frame := p.frame.set ly b.row, bgIndex := b.index, objOwned := b.owned })

/-- Reset loads every row of the reset table and keeps what it does not change; Start, Stop and Pause set the run state
alone (R951, R952, R953, R909, R911). That sound registers read as stored is log entry 16 (DESIGN CHOICE). -/
def Obligations.ResetTable : Prop :=
  ∀ s : State,
    let t := resetProcedure s
    t.cpu = { a := 0x01, f := 0xB0, b := 0x00, c := 0x13, d := 0x00, e := 0xD8, h := 0x01, l := 0x4D, sp := 0xFFFE, pc := 0x0100,
              ime := false, halted := false, stopped := false, cycles := 0 } ∧
    (([0xFF00, 0xFF04, 0xFF05, 0xFF06, 0xFF07, 0xFF0F, 0xFF40, 0xFF41, 0xFF42, 0xFF43, 0xFF44, 0xFF45] : List Word).map (read8 t) =
      [0xCF, 0x00, 0x00, 0x00, 0xF8, 0xE0, 0x91, 0x86, 0x00, 0x00, 0x00, 0x00]) ∧
    (([0xFF46, 0xFF47, 0xFF48, 0xFF49, 0xFF4A, 0xFF4B, 0xFFFF, 0xFF10, 0xFF11, 0xFF12, 0xFF14, 0xFF16] : List Word).map (read8 t) =
      [0xFF, 0xFC, 0xFF, 0xFF, 0x00, 0x00, 0x00, 0x80, 0xBF, 0xF3, 0xBF, 0x3F]) ∧
    (([0xFF19, 0xFF1A, 0xFF1B, 0xFF1C, 0xFF1E, 0xFF20, 0xFF23, 0xFF24, 0xFF25, 0xFF26, 0xFF30, 0xFF3F] : List Word).map (read8 t) =
      [0xBF, 0x7F, 0xFF, 0x9F, 0xBF, 0xFF, 0xBF, 0x77, 0xF3, 0xF1, 0x00, 0x00]) ∧
    (∀ a ∈ ([0xFF13, 0xFF15, 0xFF17, 0xFF18, 0xFF1D, 0xFF1F, 0xFF21, 0xFF22] : List Word), read8 t a = 0x00) ∧
    (∀ a : Word, 0xFF30 ≤ a.toNat → a.toNat ≤ 0xFF3F → read8 t a = 0x00) ∧
    (∀ a : Word, 0xFF01 ≤ a.toNat ∧ a.toNat ≤ 0xFF03 ∨ 0xFF08 ≤ a.toNat ∧ a.toNat ≤ 0xFF0E ∨
        0xFF27 ≤ a.toNat ∧ a.toNat ≤ 0xFF2F ∨ 0xFF4C ≤ a.toNat ∧ a.toNat ≤ 0xFF7F → read8 t a = 0xFF) ∧
    t.ic.phase = .idle ∧ t.timer.divCounter = 0 ∧ t.timer.timaCounter = 0 ∧ t.ppu.mode = .oam ∧ t.ppu.acc = 0 ∧
    t.ppu.frameReady = false ∧ t.ppu.frame = List.replicate 144 (List.replicate 160 0) ∧
    t.cart = { s.cart with romBank := 1, ramBank := 0, ramEnabled := false, bankingMode := false } ∧
    (∀ a : Word, 0x8000 ≤ a.toNat ∧ a.toNat < 0xA000 ∨ 0xC000 ≤ a.toNat ∧ a.toNat < 0xE000 ∨
        0xFE00 ≤ a.toNat ∧ a.toNat < 0xFEA0 ∨ 0xFF80 ≤ a.toNat ∧ a.toNat < 0xFFFF →
      read8 t a = s.cfg.ramInit.read a.toNat) ∧
    t.cfg = s.cfg ∧ t.sched = s.sched ∧ t.host = s.host ∧
    hostStart s = { s with sched.runState := .running } ∧
    hostStop s = { s with sched.runState := .stopped } ∧
    hostPause s = { s with sched.runState :=
      match s.sched.runState with | .stopped => .paused | .running => .paused | .paused => .running }

/-- LoadROM refuses a short image or an unrecognized type, and otherwise installs the image and resets (R912, R267). -/
def Obligations.LoadRomChecksFirst : Prop :=
  ∀ (image : List Byte) (s : State),
    (image.length < 0x8000 → loadRom image s = .error .tooSmall) ∧
    (0x8000 ≤ image.length → kindOfType (image.getD 0x147 0) = none → loadRom image s = .error .unrecognizedType) ∧
    (∀ kind, s.cfg.valid = true → 0x8000 ≤ image.length → kindOfType (image.getD 0x147 0) = some kind →
      ∃ t, loadRom image s = .ok t ∧ t.cart.kind = kind ∧ t.cart.romLen = image.length ∧
        (∀ k, t.cart.rom.read k = image.getD k 0) ∧ t.cart.romBank = 1 ∧ t.cart.ramBank = 0 ∧ t.cart.ramEnabled = false ∧
        t.cart.bankingMode = false ∧ t.cart.ramLen = ramLenOf kind (image.getD 0x149 0) ∧
        (∀ k < t.cart.ramLen, t.cart.ram.read k = if kind = .mbc2 then s.cfg.cartRamInit.read k &&& 0x0F
          else s.cfg.cartRamInit.read k) ∧
        t.cpu.pc = 0x0100 ∧ resetProcedure { s with cart := t.cart, sched.runState := .stopped } = t)

/-- Loading a save state just taken leaves the machine as it was; a record is refused exactly where a check fails, and
otherwise sets its fields alone (R915, R916, R917, R918). That the record keeps the cycle counter mod 2^64 is log
entry 12 (DEDUCED), and that a record with LY above 153 cannot be loaded back is R917. -/
def Obligations.SaveThenLoadKeepsState : Prop :=
  ∀ (timestamp : BitVec 64) (bs : List Byte) (s : State),
    let byte : Nat → Byte := fun i => bs.getD i 0
    (Saveable s → (saveState timestamp s).length = 109 ∧ loadState (saveState timestamp s) s = .ok s) ∧
    ((∃ t, loadState bs s = .ok t) ↔
      bs.length = 109 ∧ bs.take 4 = magicBytes s.cfg ∧ (bs.drop 4).take 4 = versionBytes s.cfg ∧ (byte 69).toNat ≤ 3 ∧
      (∀ o, 43 ≤ o ∧ o ≤ 48 ∨ 79 ≤ o ∧ o ≤ 86 ∨ o = 108 → byte o = 0 ∨ byte o = 1) ∧ (byte 61).toNat ≤ 153 ∧
      fieldNum s.cfg.saveEndian ((bs.drop 70).take 4) < [204, 456, 80, 172].getD (byte 69).toNat 0) ∧
    (∀ t, loadState bs s = .ok t →
      (∀ i, 32 ≤ i → i < 109 → i ∉ [58, 77, 78, 106] → (saveState timestamp t).getD i 0 = byte i) ∧
      (saveState timestamp t).getD 58 0 = 0x80 ||| (byte 58 &&& 0x7C) ||| byte 69 ∧
      (saveState timestamp t).getD 77 0 = 0xF8 ||| byte 77 ∧
      (saveState timestamp t).getD 78 0 &&& 0x30 = byte 78 &&& 0x30 ∧
      (saveState timestamp t).getD 106 0 = 0xE0 ||| byte 106 ∧
      KeepsUnsaved s t ∧ (s.sound.wf = true → Saveable t))

/-- A ready frame is delivered, a spent budget ends the frame without a call, otherwise the frame goes on (R905, R906,
R907, R919). That the calls are recorded in lastFrame is log entry 18 and that frameCycles is cleared at the frame's
end is log entry 4 (both DESIGN CHOICE). -/
def Obligations.FrameEndTest : Prop :=
  ∀ s : State,
    (s.ppu.frameReady = true → frameEnd s =
      { s with ppu.frameReady := false, sched.frameCycles := 0,
               sched.lastFrame := .delivered { frame := s.ppu.frame, audio := if s.host.soundEnabled then some s.sched.samples else none } }) ∧
    (s.ppu.frameReady = false → 70224 ≤ s.sched.frameCycles → frameEnd s =
      { s with sched.frameCycles := 0, sched.lastFrame := .budgetExceeded }) ∧
    (s.ppu.frameReady = false → s.sched.frameCycles < 70224 → frameEnd s = { s with sched.lastFrame := .inFrame })

/-- Every frame ends: delivered, or with its budget spent (R905, R903). The record of the frame's end is log entry 18, the
cleared count log entry 4 (both DESIGN CHOICE), the bound of the loop log entry 19 (DEDUCED). -/
def Obligations.FrameEndsWithinBudget : Prop :=
  ∀ s : State, s.cfg.valid = true → ∃ t, frame s = .next t ∧ t.sched.lastFrame ≠ .inFrame ∧ t.sched.frameCycles = 0

/-- The reset state meets the invariant (R953, R102, R117, R131). -/
def Obligations.ResetMeetsTheInvariant : Prop :=
  State.reset.Inv

/-- Every step keeps the invariant (R102, R117, R124, R131, R151, R801, R905). -/
def Obligations.StepKeepsTheInvariant : Prop :=
  ∀ s t : State, s.Inv → step s = .next t → t.Inv

/-- No step changes the ROM, the kind, the parameters, the buttons, the run state or the host configuration; the cycle
counter only grows (R205, R109, R140, R150, R162, R920). -/
def Obligations.StepKeepsHostOwnedState : Prop :=
  ∀ s t : State, step s = .next t →
    t.cfg = s.cfg ∧ t.cart.rom = s.cart.rom ∧ t.cart.romLen = s.cart.romLen ∧ t.cart.kind = s.cart.kind ∧
    t.cart.ramLen = s.cart.ramLen ∧ (∀ key, t.joy.pressed key = s.joy.pressed key) ∧
    t.sched.runState = s.sched.runState ∧ t.sched.samples = s.sched.samples ∧ t.host = s.host ∧
    s.cpu.cycles ≤ t.cpu.cycles ∧
    (s.sched.runState ≠ .paused → s.cfg.valid = true → s.cpu.cycles < t.cpu.cycles)
end

