-- ==== Sys2Proof/Laws/Memory.lean ====
section
/-! SUPPORT. The laws of sparse memory: a read after a write, and the canonical form kept by every operation. -/

namespace Sys2Proof.Machine

@[simp] theorem Memory.read_nil (k : Nat) : Memory.read [] k = 0 := rfl

theorem Memory.read_cons (c : Host.Cell) (m : Memory) (k : Nat) :
    Memory.read (c :: m) k = if c.1 = k then c.2 else Memory.read m k := rfl

theorem Memory.read_erase_other (m : Memory) {j k : Nat} (h : j ≠ k) : (m.erase j).read k = m.read k := by
  induction m with
  | nil => rfl
  | cons c m ih =>
    unfold Memory.erase at *
    by_cases hc : c.1 = j
    · have : c.1 ≠ k := by omega
      simp [hc, Memory.read_cons, ih]
      intro hjk; omega
    · simp [hc, Memory.read_cons, ih]

theorem Memory.read_erase_same (m : Memory) (k : Nat) : (m.erase k).read k = 0 := by
  induction m with
  | nil => rfl
  | cons c m ih =>
    unfold Memory.erase at *
    by_cases hc : c.1 = k
    · simp [hc, ih]
    · simp [hc, Memory.read_cons, ih]

theorem Memory.read_insert_same (m : Memory) (k : Nat) (v : Byte) (h : ∀ c ∈ m, c.1 ≠ k) :
    (Memory.insert k v m).read k = v := by
  induction m with
  | nil => simp [Memory.insert, Memory.read_cons]
  | cons c m ih =>
    have h1 : c.1 ≠ k := h c (by simp)
    have h2 := ih fun d hd => h d (by simp [hd])
    unfold Memory.insert
    split <;> simp [Memory.read_cons, h1, h2]

theorem Memory.read_insert_other (m : Memory) {j k : Nat} (v : Byte) (h : j ≠ k) :
    (Memory.insert j v m).read k = m.read k := by
  induction m with
  | nil => simp [Memory.insert, Memory.read_cons, h]
  | cons c m ih =>
    unfold Memory.insert
    split <;> simp [Memory.read_cons, h, ih]

theorem Memory.erase_ne (m : Memory) (k : Nat) : ∀ c ∈ m.erase k, c.1 ≠ k := by
  intro c hc
  simp [Memory.erase] at hc
  exact hc.2

/-- A read after a write to the same key gives the value written. -/
@[simp] theorem Memory.read_write_same (m : Memory) (k : Nat) (v : Byte) : (m.write k v).read k = v := by
  unfold Memory.write
  split
  · rename_i h; rw [Memory.read_erase_same, h]; rfl
  · exact Memory.read_insert_same _ _ _ (Memory.erase_ne m k)

/-- A write leaves every other key alone. -/
theorem Memory.read_write_other (m : Memory) {j k : Nat} (v : Byte) (h : j ≠ k) : (m.write j v).read k = m.read k := by
  unfold Memory.write
  split
  · exact Memory.read_erase_other m h
  · rw [Memory.read_insert_other _ v h, Memory.read_erase_other m h]

theorem Memory.read_write (m : Memory) (j k : Nat) (v : Byte) :
    (m.write j v).read k = if j = k then v else m.read k := by
  split
  · rename_i h; subst h; simp
  · exact Memory.read_write_other m v ‹_›

theorem Memory.wf_cons (c : Host.Cell) (m : Memory) :
    Memory.wf (c :: m) = true ↔ c.2 ≠ 0 ∧ (∀ d ∈ m, c.1 < d.1) ∧ m.wf = true := by
  simp [Memory.wf, Memory.above, Memory.unlisted, and_assoc]

theorem Memory.wf_filter (m : Memory) (p : Host.Cell → Bool) (h : m.wf = true) : Memory.wf (m.filter p) = true := by
  induction m with
  | nil => rfl
  | cons c m ih =>
    obtain ⟨h1, h2, h3⟩ := (Memory.wf_cons c m).1 h
    rw [List.filter_cons]
    split
    · exact (Memory.wf_cons _ _).2 ⟨h1, fun d hd => h2 d (List.mem_filter.1 hd).1, ih h3⟩
    · exact ih h3

theorem Memory.mem_insert (m : Memory) (k : Nat) (v : Byte) (c : Host.Cell) :
    c ∈ Memory.insert k v m ↔ c = (k, v) ∨ c ∈ m := by
  induction m with
  | nil => simp [Memory.insert]
  | cons d m ih =>
    unfold Memory.insert
    split
    · simp
    · simp [ih]; tauto

theorem Memory.wf_insert (m : Memory) (k : Nat) (v : Byte) (hv : v ≠ 0) (hk : ∀ c ∈ m, c.1 ≠ k) (h : m.wf = true) :
    (Memory.insert k v m).wf = true := by
  induction m with
  | nil => exact (Memory.wf_cons _ _).2 ⟨hv, by simp, rfl⟩
  | cons c m ih =>
    obtain ⟨h1, h2, h3⟩ := (Memory.wf_cons c m).1 h
    have hc : c.1 ≠ k := hk c (by simp)
    unfold Memory.insert
    split
    · rename_i hlt
      refine (Memory.wf_cons _ _).2 ⟨hv, ?_, h⟩
      intro d hd
      rcases List.mem_cons.1 hd with rfl | hd
      · exact hlt
      · exact lt_trans hlt (h2 d hd)
    · refine (Memory.wf_cons _ _).2 ⟨h1, ?_, ih (fun d hd => hk d (by simp [hd])) h3⟩
      intro d hd
      rcases (Memory.mem_insert m k v d).1 hd with rfl | hd
      · simp; omega
      · exact h2 d hd

/-- A write keeps the canonical form. -/
theorem Memory.wf_write (m : Memory) (k : Nat) (v : Byte) (h : m.wf = true) : (m.write k v).wf = true := by
  unfold Memory.write
  split
  · exact Memory.wf_filter m _ h
  · exact Memory.wf_insert _ _ _ ‹_› (Memory.erase_ne m k) (Memory.wf_filter m _ h)

theorem Memory.below_iff (n : Nat) (m : Memory) : m.below n = true ↔ ∀ c ∈ m, c.1 < n := by
  simp [Memory.below]

/-- A write inside the array keeps the array. -/
theorem Memory.array_write {n : Nat} {m : Memory} (k : Nat) (v : Byte) (hk : k < n) (h : Memory.array n m) :
    Memory.array n (m.write k v) := by
  refine ⟨Memory.wf_write m k v h.1, (Memory.below_iff n _).2 fun c hc => ?_⟩
  have hm := (Memory.below_iff n m).1 h.2
  unfold Memory.write at hc
  split at hc
  · exact hm c (List.mem_filter.1 hc).1
  · rcases (Memory.mem_insert _ k v c).1 hc with rfl | hc
    · exact hk
    · exact hm c (List.mem_filter.1 hc).1

theorem Memory.wf_map_sub (m : Memory) (base : Nat) (hb : ∀ c ∈ m, base ≤ c.1) (h : m.wf = true) :
    Memory.wf (m.map fun c => (c.1 - base, c.2)) = true := by
  induction m with
  | nil => rfl
  | cons c m ih =>
    obtain ⟨h1, h2, h3⟩ := (Memory.wf_cons c m).1 h
    refine (Memory.wf_cons _ _).2 ⟨h1, ?_, ih (fun d hd => hb d (by simp [hd])) h3⟩
    intro d hd
    obtain ⟨e, he, rfl⟩ := List.mem_map.1 hd
    have := h2 e he
    have := hb c (by simp)
    simp only; omega

/-- A slice is a canonical array of its length. -/
theorem Memory.array_slice (m : Memory) (base len : Nat) (h : m.wf = true) : Memory.array len (m.slice base len) := by
  constructor
  · refine Memory.wf_map_sub _ base ?_ (Memory.wf_filter m _ h)
    intro c hc
    have := (List.mem_filter.1 hc).2
    simp at this
    exact this.1
  · refine (Memory.below_iff _ _).2 fun c hc => ?_
    obtain ⟨e, he, rfl⟩ := List.mem_map.1 hc
    have := (List.mem_filter.1 he).2
    simp at this
    simp only; omega

theorem Memory.read_filter_keys (m : Memory) (p : Nat → Bool) (k : Nat) :
    Memory.read (m.filter fun c => p c.1) k = if p k then m.read k else 0 := by
  induction m with
  | nil => simp
  | cons c m ih =>
    rw [List.filter_cons]
    by_cases hc : c.1 = k
    · subst hc
      by_cases hp : p c.1 <;> simp [hp, Memory.read_cons, ih]
    · by_cases hp : p c.1 <;> simp [hp, Memory.read_cons, ih, hc]

theorem Memory.read_map_sub (m : Memory) (base k : Nat) (hb : ∀ c ∈ m, base ≤ c.1) :
    Memory.read (m.map fun c => (c.1 - base, c.2)) k = m.read (base + k) := by
  induction m with
  | nil => rfl
  | cons c m ih =>
    have h1 := hb c (by simp)
    have h2 := ih fun d hd => hb d (by simp [hd])
    rw [List.map_cons, Memory.read_cons, Memory.read_cons, h2]
    simp only
    congr 1
    simp only [eq_iff_iff]; omega

/-- A slice reads as the memory it was cut from. -/
theorem Memory.read_slice (m : Memory) (base len k : Nat) (hk : k < len) : (m.slice base len).read k = m.read (base + k) := by
  unfold Memory.slice
  rw [Memory.read_map_sub _ base k (by intro c hc; have := (List.mem_filter.1 hc).2; simp at this; exact this.1)]
  rw [Memory.read_filter_keys m (fun j => decide (base ≤ j ∧ j < base + len))]
  simp; omega

theorem Memory.ofBytesFrom_keys (k : Nat) (bs : List Byte) : ∀ c ∈ Memory.ofBytesFrom k bs, k ≤ c.1 ∧ c.1 < k + bs.length := by
  induction bs generalizing k with
  | nil => simp [Memory.ofBytesFrom]
  | cons b bs ih =>
    intro c hc
    unfold Memory.ofBytesFrom at hc
    have h1 := ih (k + 1) c
    split at hc
    · have := h1 hc; simp; omega
    · rcases List.mem_cons.1 hc with rfl | hc
      · simp
      · have := h1 hc; simp; omega

theorem Memory.wf_ofBytesFrom (k : Nat) (bs : List Byte) : (Memory.ofBytesFrom k bs).wf = true := by
  induction bs generalizing k with
  | nil => rfl
  | cons b bs ih =>
    unfold Memory.ofBytesFrom
    split
    · exact ih (k + 1)
    · refine (Memory.wf_cons _ _).2 ⟨‹_›, fun d hd => ?_, ih (k + 1)⟩
      have := (Memory.ofBytesFrom_keys (k + 1) bs d hd).1
      simp only; omega

theorem Memory.read_eq_zero (m : Memory) (k : Nat) (h : ∀ c ∈ m, c.1 ≠ k) : m.read k = 0 := by
  induction m with
  | nil => rfl
  | cons c m ih =>
    rw [Memory.read_cons, if_neg (h c (by simp))]
    exact ih fun d hd => h d (by simp [hd])

/-- A key not above the keys of a list reads as unlisted. -/
theorem Memory.read_below (m : Memory) {k j : Nat} (h : ∀ d ∈ m, k < d.1) (hj : j ≤ k) : m.read j = 0 :=
  Memory.read_eq_zero m j fun d hd => by have := h d hd; omega

/-- Canonical memories that read alike are equal. -/
theorem Memory.eq_of_read {m n : Memory} (hm : m.wf = true) (hn : n.wf = true) (h : ∀ k, m.read k = n.read k) : m = n := by
  induction m generalizing n with
  | nil =>
    cases n with
    | nil => rfl
    | cons d n =>
      obtain ⟨d1, -, -⟩ := (Memory.wf_cons d n).1 hn
      exact absurd (by simpa [Memory.read_cons] using (h d.1).symm) d1
  | cons c m ih =>
    obtain ⟨c1, c2, c3⟩ := (Memory.wf_cons c m).1 hm
    cases n with
    | nil => exact absurd (by simpa [Memory.read_cons] using h c.1) c1
    | cons d n =>
      obtain ⟨d1, d2, d3⟩ := (Memory.wf_cons d n).1 hn
      have hk : c.1 = d.1 := by
        rcases Nat.lt_trichotomy c.1 d.1 with hlt | heq | hgt
        · have := h c.1
          rw [Memory.read_cons, if_pos rfl, Memory.read_cons, if_neg (by omega), Memory.read_below n d2 (by omega)] at this
          exact absurd this c1
        · exact heq
        · have := h d.1
          rw [Memory.read_cons, if_neg (by omega), Memory.read_below m c2 (by omega), Memory.read_cons, if_pos rfl] at this
          exact absurd this.symm d1
      have hv : c.2 = d.2 := by
        have := h c.1
        rwa [Memory.read_cons, if_pos rfl, Memory.read_cons, if_pos hk.symm] at this
      rw [Prod.ext hk hv, ih c3 d3 fun k => ?_]
      by_cases hkc : k ≤ c.1
      · rw [Memory.read_below m c2 hkc, Memory.read_below n d2 (by omega)]
      · have := h k
        rwa [Memory.read_cons, if_neg (by omega), Memory.read_cons, if_neg (by omega)] at this

theorem Memory.read_ofBytesFrom (k i : Nat) (bs : List Byte) : (Memory.ofBytesFrom k bs).read (k + i) = bs.getD i 0 := by
  induction bs generalizing k i with
  | nil => simp [Memory.ofBytesFrom]
  | cons b bs ih =>
    unfold Memory.ofBytesFrom
    cases i with
    | zero =>
      split
      · rename_i h
        rw [Memory.read_eq_zero]
        · simpa [Memory.unlisted] using h.symm
        · intro c hc; have := (Memory.ofBytesFrom_keys (k + 1) bs c hc).1; omega
      · simp [Memory.read_cons]
    | succ i =>
      have := ih (k + 1) i
      rw [show k + 1 + i = k + (i + 1) by omega] at this
      split
      · simpa using this
      · rw [Memory.read_cons, if_neg (by simp), this]; simp

/-- The memory of a byte sequence reads as the sequence, 0 past its end. -/
theorem Memory.read_ofBytes (i : Nat) (bs : List Byte) : (Memory.ofBytes bs).read i = bs.getD i 0 := by
  have := Memory.read_ofBytesFrom 0 i bs
  rwa [Nat.zero_add] at this

theorem Memory.array_ofBytes (bs : List Byte) : Memory.array bs.length (Memory.ofBytes bs) := by
  refine ⟨Memory.wf_ofBytesFrom 0 bs, (Memory.below_iff _ _).2 fun c hc => ?_⟩
  have := (Memory.ofBytesFrom_keys 0 bs c hc).2
  omega

theorem Memory.ofBytesFrom_zeros (k n : Nat) : Memory.ofBytesFrom k (List.replicate n Memory.unlisted) = [] := by
  induction n generalizing k with
  | zero => rfl
  | succ n ih => rw [List.replicate_succ, Memory.ofBytesFrom, if_pos rfl]; exact ih (k + 1)

end Sys2Proof.Machine
end

