-- ==== Sys2Proof/Laws/Devices.lean ====
section
/-! SUPPORT. What the devices' own steps can change: one frame for a request, a PPU step, a timer step and an MMU step. -/

namespace Sys2Proof.Machine

/-- A device step changes the PPU's running state, the timer's counters and IF, and may end a HALT; nothing else. -/
structure DeviceOnly (s t : State) : Prop where
  cfg : t.cfg = s.cfg
  cpu : t.cpu = { s.cpu with halted := t.cpu.halted }
  wake : t.cpu.halted = true → s.cpu.halted = true
  ie : t.ic.ie = s.ic.ie
  phase : t.ic.phase = s.ic.phase
  joy : t.joy = s.joy
  sound : t.sound = s.sound
  cart : t.cart = s.cart
  wram : t.wram = s.wram
  hram : t.hram = s.hram
  sched : t.sched = s.sched
  host : t.host = s.host
  vram : t.ppu.vram = s.ppu.vram
  oam : t.ppu.oam = s.ppu.oam
  tac : t.timer.tac = s.timer.tac
  tma : t.timer.tma = s.timer.tma

theorem DeviceOnly.refl (s : State) : DeviceOnly s s := by constructor <;> simp

theorem DeviceOnly.trans {s t u : State} (h : DeviceOnly s t) (k : DeviceOnly t u) : DeviceOnly s u where
  cfg := k.cfg.trans h.cfg
  cpu := by rw [k.cpu, h.cpu]
  wake := fun x => h.wake (k.wake x)
  ie := k.ie.trans h.ie
  phase := k.phase.trans h.phase
  joy := k.joy.trans h.joy
  sound := k.sound.trans h.sound
  cart := k.cart.trans h.cart
  wram := k.wram.trans h.wram
  hram := k.hram.trans h.hram
  sched := k.sched.trans h.sched
  host := k.host.trans h.host
  vram := k.vram.trans h.vram
  oam := k.oam.trans h.oam
  tac := k.tac.trans h.tac
  tma := k.tma.trans h.tma

theorem DeviceOnly.after {s t u : State} (k : DeviceOnly t u) (h : DeviceOnly s t) : DeviceOnly s u := h.trans k

theorem request_deviceOnly (b : IntSource) (s : State) : DeviceOnly s (request b s) := by
  constructor <;> simp [request]

theorem requestIf_deviceOnly (p : Bool) (b : IntSource) (s : State) : DeviceOnly s (requestIf p b s) := by
  unfold requestIf
  split
  · exact request_deviceOnly b s
  · exact .refl s

/-- A request leaves the PPU and the timer alone. -/
@[simp] theorem requestIf_ppu (p : Bool) (b : IntSource) (s : State) : (requestIf p b s).ppu = s.ppu := by
  unfold requestIf; split <;> rfl

@[simp] theorem requestIf_timer (p : Bool) (b : IntSource) (s : State) : (requestIf p b s).timer = s.timer := by
  unfold requestIf; split <;> rfl

@[simp] theorem request_ppu (b : IntSource) (s : State) : (request b s).ppu = s.ppu := rfl

@[simp] theorem request_timer (b : IntSource) (s : State) : (request b s).timer = s.timer := rfl

/-- An update of the PPU that keeps VRAM and OAM. -/
theorem setPpu_deviceOnly (s : State) (p : Ppu) (hv : p.vram = s.ppu.vram) (ho : p.oam = s.ppu.oam) :
    DeviceOnly s { s with ppu := p } := by
  constructor <;> simp [hv, ho]

theorem setLY_deviceOnly (v : Byte) (s : State) : DeviceOnly s (setLY v s) :=
  (requestIf_deviceOnly _ _ _).after (setPpu_deviceOnly s _ rfl rfl)

@[simp] theorem setLY_ppu (v : Byte) (s : State) :
    (setLY v s).ppu = { s.ppu with ly := v, coincidence := v == s.ppu.lyc } := by
  simp [setLY]

theorem enterHBlank_deviceOnly (s : State) : DeviceOnly s (enterHBlank s) :=
  (requestIf_deviceOnly _ _ _).after (setPpu_deviceOnly s _ rfl rfl)

@[simp] theorem enterHBlank_ppu (s : State) :
    (enterHBlank s).ppu = renderLine s.ppu.ly.toNat { s.ppu with mode := .hblank } := by
  simp [enterHBlank]

theorem enterVBlank_deviceOnly (s : State) : DeviceOnly s (enterVBlank s) :=
  (requestIf_deviceOnly _ _ _).after ((request_deviceOnly _ _).after (setPpu_deviceOnly s _ rfl rfl))

@[simp] theorem enterVBlank_ppu (s : State) : (enterVBlank s).ppu = { s.ppu with mode := .vblank, frameReady := true } := by
  simp [enterVBlank]

theorem enterOAM_deviceOnly (s : State) : DeviceOnly s (enterOAM s) :=
  (requestIf_deviceOnly _ _ _).after (setPpu_deviceOnly s _ rfl rfl)

@[simp] theorem enterOAM_ppu (s : State) : (enterOAM s).ppu = { s.ppu with mode := .oam } := by
  simp [enterOAM]

theorem endHBlankLine_deviceOnly (s : State) : DeviceOnly s (endHBlankLine s) := by
  unfold endHBlankLine
  dsimp only
  split
  · exact (setLY_deviceOnly _ _).trans (enterVBlank_deviceOnly _)
  · exact (setLY_deviceOnly _ _).trans (enterOAM_deviceOnly _)

theorem endVBlankLine_deviceOnly (s : State) : DeviceOnly s (endVBlankLine s) := by
  unfold endVBlankLine
  split
  · exact (setLY_deviceOnly _ _).trans (enterOAM_deviceOnly _)
  · exact setLY_deviceOnly _ _

theorem ppuTransition_deviceOnly (s : State) : DeviceOnly s (ppuTransition s) := by
  have h0 : DeviceOnly s { s with ppu.acc := s.ppu.acc - s.ppu.mode.length } := setPpu_deviceOnly s _ rfl rfl
  unfold ppuTransition
  split
  · exact setPpu_deviceOnly s _ rfl rfl
  · exact h0.trans (enterHBlank_deviceOnly _)
  · exact h0.trans (endHBlankLine_deviceOnly _)
  · exact h0.trans (endVBlankLine_deviceOnly _)

theorem ppuLoop_deviceOnly (fuel : Nat) (s : State) : DeviceOnly s (ppuLoop fuel s) := by
  induction fuel generalizing s with
  | zero => exact .refl s
  | succ n ih =>
    unfold ppuLoop
    split
    · exact .refl s
    · exact (ppuTransition_deviceOnly s).trans (ih _)

theorem ppuStep_deviceOnly (n : Nat) (s : State) : DeviceOnly s (ppuStep n s) := by
  unfold ppuStep
  split
  · exact (ppuLoop_deviceOnly _ _).after (setPpu_deviceOnly s _ rfl rfl)
  · exact .refl s

theorem timaTick_deviceOnly (s : State) : DeviceOnly s (timaTick s) := by
  unfold timaTick
  split
  · exact DeviceOnly.trans (t := { s with timer.tima := s.timer.tma }) (by constructor <;> simp) (request_deviceOnly _ _)
  · constructor <;> simp

theorem timaTicks_deviceOnly (k : Nat) (s : State) : DeviceOnly s (timaTicks k s) := by
  induction k generalizing s with
  | zero => exact .refl s
  | succ n ih => exact (timaTick_deviceOnly s).trans (ih _)

theorem divStep_deviceOnly (n : Nat) (s : State) : DeviceOnly s (divStep n s) := by
  constructor <;> simp [divStep]

theorem timaStep_deviceOnly (n : Nat) (s : State) : DeviceOnly s (timaStep n s) := by
  unfold timaStep
  split
  · exact DeviceOnly.trans (by constructor <;> simp) (timaTicks_deviceOnly _ _)
  · exact .refl s

theorem timerStep_deviceOnly (n : Nat) (s : State) : DeviceOnly s (timerStep n s) :=
  (divStep_deviceOnly n s).trans (timaStep_deviceOnly n _)

/-- Everything `mmu.step(n)` can change. -/
theorem mmuStep_deviceOnly (n : Nat) (s : State) : DeviceOnly s (mmuStep n s) :=
  (ppuStep_deviceOnly n s).trans (timerStep_deviceOnly n _)

theorem timaTick_ppu (s : State) : (timaTick s).ppu = s.ppu := by
  unfold timaTick; split <;> rfl

theorem timaTicks_ppu (k : Nat) (s : State) : (timaTicks k s).ppu = s.ppu := by
  induction k generalizing s with
  | zero => rfl
  | succ n ih => rw [timaTicks, ih, timaTick_ppu]

/-- The timer does not touch the PPU. -/
@[simp] theorem timerStep_ppu (n : Nat) (s : State) : (timerStep n s).ppu = s.ppu := by
  unfold timerStep timaStep
  split
  · rw [timaTicks_ppu]; rfl
  · rfl

theorem setLY_timer (v : Byte) (s : State) : (setLY v s).timer = s.timer := by simp [setLY]

theorem ppuTransition_timer (s : State) : (ppuTransition s).timer = s.timer := by
  unfold ppuTransition
  split
  · rfl
  · simp [enterHBlank]
  · unfold endHBlankLine; dsimp only; split <;> simp [enterVBlank, enterOAM, setLY_timer]
  · unfold endVBlankLine; dsimp only; split <;> simp [enterOAM, setLY_timer]

theorem ppuLoop_timer (fuel : Nat) (s : State) : (ppuLoop fuel s).timer = s.timer := by
  induction fuel generalizing s with
  | zero => rfl
  | succ n ih =>
    unfold ppuLoop
    split
    · rfl
    · rw [ih, ppuTransition_timer]

/-- The PPU does not touch the timer. -/
@[simp] theorem ppuStep_timer (n : Nat) (s : State) : (ppuStep n s).timer = s.timer := by
  unfold ppuStep
  split
  · rw [ppuLoop_timer]
  · rfl

end Sys2Proof.Machine
end

