-- ==== Sys2Proof/Laws/Mmu.lean ====
section
/-! SUPPORT. The laws of the MMU: where a store goes, what it keeps, and what a read returns after it. -/

namespace Sys2Proof.Machine

/-- The addresses of each region (R201). -/
theorem regionOf_wram_iff (a o : Nat) :
    regionOf a = .wram o ↔ 0xC000 ≤ a ∧ a < 0xFE00 ∧ o = a % 0x2000 := by
  unfold regionOf
  split_ifs <;> simp <;> omega

theorem regionOf_rom0_iff (a o : Nat) : regionOf a = .rom0 o ↔ a < 0x4000 ∧ o = a := by
  unfold regionOf
  split_ifs <;> simp <;> omega

theorem regionOf_romN_iff (a o : Nat) : regionOf a = .romN o ↔ 0x4000 ≤ a ∧ a < 0x8000 ∧ o = a - 0x4000 := by
  unfold regionOf
  split_ifs <;> simp <;> omega

theorem regionOf_vram_iff (a o : Nat) : regionOf a = .vram o ↔ 0x8000 ≤ a ∧ a < 0xA000 ∧ o = a - 0x8000 := by
  unfold regionOf
  split_ifs <;> simp <;> omega

theorem regionOf_ext_iff (a o : Nat) : regionOf a = .ext o ↔ 0xA000 ≤ a ∧ a < 0xC000 ∧ o = a - 0xA000 := by
  unfold regionOf
  split_ifs <;> simp <;> omega

theorem regionOf_oam_iff (a o : Nat) : regionOf a = .oam o ↔ 0xFE00 ≤ a ∧ a < 0xFEA0 ∧ o = a - 0xFE00 := by
  unfold regionOf
  split_ifs <;> simp <;> omega

theorem regionOf_unusable_iff (a : Nat) : regionOf a = .unusable ↔ 0xFEA0 ≤ a ∧ a < 0xFF00 := by
  unfold regionOf
  split_ifs <;> simp <;> omega

theorem regionOf_io_iff (a : Nat) (r : IoReg) : regionOf a = .io r ↔ 0xFF00 ≤ a ∧ a < 0xFF80 ∧ r = ioRegOf a := by
  unfold regionOf
  split_ifs <;> simp
  all_goals first
    | omega
    | exact ⟨fun h => ⟨by omega, by omega, h.symm⟩, fun h => h.2.2.symm⟩

theorem regionOf_hram_iff (a o : Nat) : regionOf a = .hram o ↔ 0xFF80 ≤ a ∧ a < 0xFFFF ∧ o = a - 0xFF80 := by
  unfold regionOf
  split_ifs <;> simp <;> omega

theorem regionOf_ie_iff (a : Nat) : regionOf a = .ie ↔ 0xFFFF ≤ a := by
  unfold regionOf
  split_ifs <;> simp <;> omega

/-- The address of a listed I/O row (R165). -/
def ioAddr : IoReg → Nat
  | .joyp => 0xFF00
  | .div => 0xFF04
  | .tima => 0xFF05
  | .tma => 0xFF06
  | .tac => 0xFF07
  | .iflag => 0xFF0F
  | .sound a => a
  | .lcdc => 0xFF40
  | .stat => 0xFF41
  | .scy => 0xFF42
  | .scx => 0xFF43
  | .ly => 0xFF44
  | .lyc => 0xFF45
  | .dma => 0xFF46
  | .bgp => 0xFF47
  | .obp0 => 0xFF48
  | .obp1 => 0xFF49
  | .wy => 0xFF4A
  | .wx => 0xFF4B
  | .unlisted => 0

theorem ioAddr_block : ∀ k < 128, ioRegOf (0xFF00 + k) ≠ .unlisted → ioAddr (ioRegOf (0xFF00 + k)) = 0xFF00 + k := by
  decide

theorem ioAddr_ioRegOf {a : Nat} (h1 : 0xFF00 ≤ a) (h2 : a < 0xFF80) (hl : ioRegOf a ≠ .unlisted) : ioAddr (ioRegOf a) = a := by
  obtain ⟨k, rfl⟩ := Nat.exists_eq_add_of_le h1
  exact ioAddr_block k (by omega) hl

/-- Two listed I/O rows are the same only at the same address. -/
theorem regionOf_io_inj {a b : Nat} {r : IoReg} (ha : regionOf a = .io r) (hb : regionOf b = .io r) (hl : r ≠ .unlisted) : a = b := by
  obtain ⟨a1, a2, rfl⟩ := (regionOf_io_iff a r).1 ha
  obtain ⟨b1, b2, hr⟩ := (regionOf_io_iff b _).1 hb
  rw [← ioAddr_ioRegOf a1 a2 hl, hr, ioAddr_ioRegOf b1 b2 (hr ▸ hl)]

/-- One OAM write through the lock changes OAM only. -/
theorem oamWrite_rest (off : Nat) (v : Byte) (s : State) :
    oamWrite off v s = { s with ppu.oam := (oamWrite off v s).ppu.oam } := by
  unfold oamWrite; split <;> rfl

theorem oamWrite_locked (off : Nat) (v : Byte) (s : State) (h : oamLocked s = true) : oamWrite off v s = s := by
  simp [oamWrite, h]

theorem oamWrite_open (off : Nat) (v : Byte) (s : State) (h : oamLocked s = false) :
    oamWrite off v s = { s with ppu.oam := s.ppu.oam.write off v } := by
  simp [oamWrite, h]

theorem dmaFold_rest (v : Byte) (l : List Nat) (s : State) : ∃ m, l.foldl (dmaByte v) s = { s with ppu.oam := m } := by
  induction l generalizing s with
  | nil => exact ⟨s.ppu.oam, rfl⟩
  | cons i l ih =>
    obtain ⟨m, hm⟩ := ih (dmaByte v s i)
    refine ⟨m, ?_⟩
    rw [List.foldl_cons, hm]
    unfold dmaByte oamWrite
    split <;> rfl

/-- The DMA changes the DMA register and OAM only. -/
theorem dmaWrite_rest (v : Byte) (s : State) :
    dmaWrite v s = { s with ppu.dma := v, ppu.oam := (dmaWrite v s).ppu.oam } := by
  obtain ⟨m, hm⟩ := dmaFold_rest v (List.range 160) { s with ppu.dma := v }
  unfold dmaWrite
  rw [hm]

theorem lcdcWrite_deviceOnly (v : Byte) (s : State) : DeviceOnly s (lcdcWrite v s) := by
  have h0 : DeviceOnly s { s with ppu.lcdc := v } := setPpu_deviceOnly s _ rfl rfl
  unfold lcdcWrite
  dsimp only
  split
  · exact (h0.trans (setLY_deviceOnly 0 _)).trans (setPpu_deviceOnly _ _ rfl rfl)
  · exact (setLY_deviceOnly 0 _).after (setPpu_deviceOnly _ _ rfl rfl)
  · exact h0
  · exact h0

/-- What a store can change: the storage and the registers of 10_state.md R165, the bank state, and a HALT; nothing of R100 to R106. -/
structure StoreOnly (s t : State) : Prop where
  cfg : t.cfg = s.cfg
  cpu : t.cpu = { s.cpu with halted := t.cpu.halted }
  wake : t.cpu.halted = true → s.cpu.halted = true
  phase : t.ic.phase = s.ic.phase
  pressed : ∀ key, t.joy.pressed key = s.joy.pressed key
  rom : t.cart.rom = s.cart.rom
  romLen : t.cart.romLen = s.cart.romLen
  kind : t.cart.kind = s.cart.kind
  ramLen : t.cart.ramLen = s.cart.ramLen
  sched : t.sched = s.sched
  host : t.host = s.host

theorem StoreOnly.refl (s : State) : StoreOnly s s := by constructor <;> simp

theorem StoreOnly.trans {s t u : State} (h : StoreOnly s t) (k : StoreOnly t u) : StoreOnly s u where
  cfg := k.cfg.trans h.cfg
  cpu := by rw [k.cpu, h.cpu]
  wake := fun x => h.wake (k.wake x)
  phase := k.phase.trans h.phase
  pressed := fun key => (k.pressed key).trans (h.pressed key)
  rom := k.rom.trans h.rom
  romLen := k.romLen.trans h.romLen
  kind := k.kind.trans h.kind
  ramLen := k.ramLen.trans h.ramLen
  sched := k.sched.trans h.sched
  host := k.host.trans h.host

theorem DeviceOnly.storeOnly {s t : State} (h : DeviceOnly s t) : StoreOnly s t where
  cfg := h.cfg
  cpu := h.cpu
  wake := h.wake
  phase := h.phase
  pressed := fun key => by rw [h.joy]
  rom := by rw [h.cart]
  romLen := by rw [h.cart]
  kind := by rw [h.cart]
  ramLen := by rw [h.cart]
  sched := h.sched
  host := h.host

theorem mbcWrite_keeps (c : Cart) (a : Nat) (v : Byte) :
    mbcWrite c a v = { c with romBank := (mbcWrite c a v).romBank, ramBank := (mbcWrite c a v).ramBank,
                              ramEnabled := (mbcWrite c a v).ramEnabled, bankingMode := (mbcWrite c a v).bankingMode } := by
  unfold mbcWrite
  split
  · rfl
  · unfold mbc1Write; split_ifs <;> rfl
  · unfold mbc2Write; split_ifs <;> rfl
  · unfold mbc3Write; split_ifs <;> rfl
  · unfold mbc5Write; split_ifs <;> rfl

theorem extWrite_keeps (c : Cart) (off : Nat) (v : Byte) : extWrite c off v = { c with ram := (extWrite c off v).ram } := by
  unfold extWrite
  split
  · rfl
  · split <;> rfl

theorem joypWrite_pressed (j : Joypad) (v : Byte) (key : Button) : (joypWrite j v).pressed key = j.pressed key := by
  cases key <;> rfl

theorem ioWrite_storeOnly (v : Byte) (s : State) (r : IoReg) : StoreOnly s (ioWrite v s r) := by
  cases r with
  | lcdc => exact (lcdcWrite_deviceOnly v s).storeOnly
  | dma =>
    show StoreOnly s (dmaWrite v s)
    rw [dmaWrite_rest]
    constructor <;> simp
  | joyp => constructor <;> simp [ioWrite, joypWrite_pressed]
  | ly => exact .refl s
  | unlisted => exact .refl s
  | _ => constructor <;> simp [ioWrite, divWrite, tacWrite, statWrite]

theorem regionWrite_storeOnly (v : Byte) (s : State) (r : Region) : StoreOnly s (regionWrite v s r) := by
  cases r with
  | rom0 off =>
    show StoreOnly s { s with cart := mbcWrite s.cart off v }
    rw [mbcWrite_keeps]
    constructor <;> simp
  | romN off =>
    show StoreOnly s { s with cart := mbcWrite s.cart (0x4000 + off) v }
    rw [mbcWrite_keeps]
    constructor <;> simp
  | vram off =>
    unfold regionWrite
    dsimp only
    split
    · exact .refl s
    · constructor <;> simp
  | ext off =>
    show StoreOnly s { s with cart := extWrite s.cart off v }
    rw [extWrite_keeps]
    constructor <;> simp
  | oam off =>
    show StoreOnly s (oamWrite off v s)
    rw [oamWrite_rest]
    constructor <;> simp
  | unusable => exact .refl s
  | io r => exact ioWrite_storeOnly v s r
  | wram off => constructor <;> simp [regionWrite]
  | hram off => constructor <;> simp [regionWrite]
  | ie => constructor <;> simp [regionWrite]

/-- Everything a byte store can change. -/
theorem write8_storeOnly (a : Word) (v : Byte) (s : State) : StoreOnly s (write8 a v s) := regionWrite_storeOnly v s _

/-- Everything a 16-bit store can change. -/
theorem write16_storeOnly (a v : Word) (s : State) : StoreOnly s (write16 a v s) :=
  (write8_storeOnly _ _ _).trans (write8_storeOnly _ _ _)

/-- A read depends on the CPU and the scheduler in nothing. -/
theorem read8_congr {s t : State} (a : Word) (hic : t.ic = s.ic) (htimer : t.timer = s.timer) (hppu : t.ppu = s.ppu)
    (hjoy : t.joy = s.joy) (hsound : t.sound = s.sound) (hcart : t.cart = s.cart) (hwram : t.wram = s.wram)
    (hhram : t.hram = s.hram) : read8 t a = read8 s a := by
  unfold read8
  cases regionOf a.toNat with
  | io r => cases r <;> simp [regionRead, ioRead, tacRead, hic, htimer, hppu, hjoy, hsound]
  | _ => simp [regionRead, hic, hppu, hcart, hwram, hhram]

theorem ext_reads (c : Cart) (o p : Nat) (v : Byte) (hne : o ≠ p) (hm : c.kind = .mbc2 → o % 0x200 ≠ p % 0x200) :
    extRead (extWrite c o v) p = extRead c p := by
  have hk : extKey (extWrite c o v) p = extKey c p := by rw [extWrite_keeps]; rfl
  unfold extRead
  rw [hk]
  cases hp : extKey c p with
  | none => rfl
  | some k =>
    have hkind : (extWrite c o v).kind = c.kind := by rw [extWrite_keeps]
    have hread : (extWrite c o v).ram.read k = c.ram.read k := by
      unfold extWrite
      cases ho : extKey c o with
      | none => rfl
      | some j =>
        have hjk : j ≠ k := by
          unfold extKey at hp ho
          cases hc : c.kind <;> simp [hc] at hp ho hm <;> omega
        cases hc : c.kind <;> simp [Memory.read_write_other _ _ hjk]
    simp only [hkind, hread]

theorem ioRead_ioWrite_other (v : Byte) (s : State) (r q : IoReg) (hq : q ≠ r) (hl : r = .lcdc → q ≠ .stat ∧ q ≠ .ly ∧ q ≠ .iflag) :
    ioRead (ioWrite v s r) q = ioRead s q := by
  cases r with
  | lcdc =>
    obtain ⟨h1, h2, h3⟩ := hl rfl
    have hd := lcdcWrite_deviceOnly v s
    have hp : ∃ m k y c, (lcdcWrite v s).ppu = { s.ppu with lcdc := v, mode := m, acc := k, ly := y, coincidence := c } := by
      unfold lcdcWrite
      dsimp only
      split
      · exact ⟨_, _, _, _, by rw [setLY_ppu]⟩
      · exact ⟨_, _, _, _, by rw [setLY_ppu]⟩
      · exact ⟨s.ppu.mode, s.ppu.acc, s.ppu.ly, s.ppu.coincidence, rfl⟩
      · exact ⟨s.ppu.mode, s.ppu.acc, s.ppu.ly, s.ppu.coincidence, rfl⟩
    have ht : (lcdcWrite v s).timer = s.timer := by
      unfold lcdcWrite
      dsimp only
      split <;> simp [setLY_timer]
    obtain ⟨m, k, y, c, hp⟩ := hp
    show ioRead (lcdcWrite v s) q = ioRead s q
    cases q <;> simp_all [ioRead, tacRead, hd.joy, hd.sound]
  | dma =>
    show ioRead (dmaWrite v s) q = ioRead s q
    rw [dmaWrite_rest]
    cases q <;> simp_all [ioRead, tacRead, statRead]
  | sound a =>
    cases q with
    | sound b =>
      have hab : a ≠ b := fun h => hq (by rw [h])
      simp [ioWrite, ioRead, Memory.read_write_other _ _ hab]
    | _ => rfl
  | _ => cases q <;> first | rfl | exact absurd rfl hq

theorem oamLocked_dma (s : State) (v : Byte) : oamLocked { s with ppu.dma := v } = oamLocked s := rfl

theorem regionRead_oam_only {s : State} (m : Memory) (q : Region) (hq : ∀ o, q ≠ .oam o) :
    regionRead { s with ppu.oam := m } q = regionRead s q := by
  cases q with
  | oam o => exact absurd rfl (hq o)
  | io r => cases r <;> rfl
  | _ => rfl

theorem toNat_ne {a b : Word} (h : b ≠ a) : a.toNat ≠ b.toNat := fun e => h (BitVec.eq_of_toNat_eq e.symm)

theorem toNat_of_io {a : Nat} {r : IoReg} (h : regionOf a = .io r) (hl : r ≠ .unlisted) : a = ioAddr r := by
  obtain ⟨h1, h2, rfl⟩ := (regionOf_io_iff a r).1 h
  exact (ioAddr_ioRegOf h1 h2 hl).symm

/-- An I/O store changes no byte outside the I/O block, the DMA apart. -/
theorem regionRead_ioWrite (v : Byte) (s : State) (r : IoReg) (q : Region) (hd : r ≠ .dma) (hq : ∀ x, q ≠ .io x) :
    regionRead (ioWrite v s r) q = regionRead s q := by
  cases r with
  | dma => exact absurd rfl hd
  | lcdc =>
    have h := lcdcWrite_deviceOnly v s
    show regionRead (lcdcWrite v s) q = regionRead s q
    cases q with
    | io x => exact absurd rfl (hq x)
    | _ => simp [regionRead, h.cart, h.vram, h.oam, h.wram, h.hram, h.ie]
  | _ =>
    cases q with
    | io x => exact absurd rfl (hq x)
    | _ => rfl

/-- A store leaves every address it does not reach alone. -/
theorem read8_write8_other (a b : Word) (v : Byte) (s : State) (h : ¬ storeReaches s.cart.kind a b) :
    read8 (write8 a v s) b = read8 s b := by
  unfold read8 write8
  unfold storeReaches at h
  have hb16 := b.isLt
  have ha16 := a.isLt
  cases ha : regionOf a.toNat with
  | rom0 o =>
    obtain ⟨h1, -⟩ := (regionOf_rom0_iff _ _).1 ha
    rw [if_pos (by omega)] at h
    show regionRead { s with cart := mbcWrite s.cart o v } _ = _
    rw [mbcWrite_keeps]
    cases hb : regionOf b.toNat with
    | romN p => have := (regionOf_romN_iff _ _).1 hb; omega
    | ext p => have := (regionOf_ext_iff _ _).1 hb; omega
    | io r => cases r <;> rfl
    | _ => rfl
  | romN o =>
    obtain ⟨h1, h2, -⟩ := (regionOf_romN_iff _ _).1 ha
    rw [if_pos (by omega)] at h
    show regionRead { s with cart := mbcWrite s.cart (0x4000 + o) v } _ = _
    rw [mbcWrite_keeps]
    cases hb : regionOf b.toNat with
    | romN p => have := (regionOf_romN_iff _ _).1 hb; omega
    | ext p => have := (regionOf_ext_iff _ _).1 hb; omega
    | io r => cases r <;> rfl
    | _ => rfl
  | vram o =>
    obtain ⟨h1, h2, h3⟩ := (regionOf_vram_iff _ _).1 ha
    unfold regionWrite
    dsimp only
    split
    · rfl
    · cases hb : regionOf b.toNat with
      | vram p =>
        obtain ⟨k1, k2, k3⟩ := (regionOf_vram_iff _ _).1 hb
        have hab : b ≠ a := by
          intro e
          rw [if_neg (by omega), if_neg (by omega), if_neg (by omega), if_neg (by rintro rfl; simp at h2),
            if_neg (by rintro rfl; simp at h2)] at h
          exact h e
        have := toNat_ne hab
        exact Memory.read_write_other _ _ (by omega)
      | io r => cases r <;> rfl
      | _ => rfl
  | ext o =>
    obtain ⟨h1, h2, h3⟩ := (regionOf_ext_iff _ _).1 ha
    rw [if_neg (by omega), if_pos ⟨h1, h2⟩] at h
    show regionRead { s with cart := extWrite s.cart o v } _ = _
    cases hb : regionOf b.toNat with
    | ext p =>
      obtain ⟨k1, k2, k3⟩ := (regionOf_ext_iff _ _).1 hb
      have hne : a.toNat ≠ b.toNat := fun e => h ⟨k1, k2, .inl (BitVec.eq_of_toNat_eq e.symm)⟩
      refine ext_reads s.cart o p v (by omega) fun hk => ?_
      have : ¬ (b.toNat % 0x200 = a.toNat % 0x200) := fun e => h ⟨k1, k2, .inr ⟨hk, e⟩⟩
      omega
    | rom0 p => rw [extWrite_keeps]; rfl
    | romN p => rw [extWrite_keeps]; rfl
    | io r => cases r <;> rfl
    | _ => rfl
  | wram o =>
    obtain ⟨h1, h2, h3⟩ := (regionOf_wram_iff _ _).1 ha
    rw [if_neg (by omega), if_neg (by omega), if_pos ⟨h1, h2⟩] at h
    cases hb : regionOf b.toNat with
    | wram p =>
      obtain ⟨k1, k2, k3⟩ := (regionOf_wram_iff _ _).1 hb
      exact Memory.read_write_other _ _ (by subst h3 k3; intro e; exact h ⟨k1, k2, e.symm⟩)
    | io r => cases r <;> rfl
    | _ => rfl
  | oam o =>
    obtain ⟨h1, h2, h3⟩ := (regionOf_oam_iff _ _).1 ha
    show regionRead (oamWrite o v s) _ = _
    rw [if_neg (by omega), if_neg (by omega), if_neg (by omega), if_neg (by rintro rfl; simp at h2),
      if_neg (by rintro rfl; simp at h2)] at h
    have := toNat_ne h
    cases hb : regionOf b.toNat with
    | oam p =>
      obtain ⟨k1, k2, k3⟩ := (regionOf_oam_iff _ _).1 hb
      unfold oamWrite
      split
      · rfl
      · exact Memory.read_write_other _ _ (by omega)
    | _ => rw [oamWrite_rest]; exact regionRead_oam_only _ _ (by simp)
  | unusable => rfl
  | io r =>
    obtain ⟨h1, h2, h3⟩ := (regionOf_io_iff _ _).1 ha
    rw [if_neg (by omega), if_neg (by omega), if_neg (by omega)] at h
    show regionRead (ioWrite v s r) _ = _
    by_cases hl : r = .unlisted
    · subst hl; rfl
    have hav := toNat_of_io ha hl
    by_cases hio : ∃ q, regionOf b.toNat = .io q
    · obtain ⟨q, hq⟩ := hio
      rw [hq]
      by_cases hqr : q = r
      · subst hqr
        have hab : b = a := BitVec.eq_of_toNat_eq (regionOf_io_inj hq ha hl)
        subst hab
        by_cases e1 : b = 0xFF40
        · rw [if_pos e1] at h; exact absurd (.inl e1) h
        · by_cases e2 : b = 0xFF46
          · rw [if_neg e1, if_pos e2] at h; exact absurd (.inl e2) h
          · rw [if_neg e1, if_neg e2] at h; exact absurd rfl h
      · refine ioRead_ioWrite_other v s r q hqr ?_
        rintro rfl
        have e1 : a = 0xFF40 := BitVec.eq_of_toNat_eq hav
        rw [if_pos e1] at h
        refine ⟨?_, ?_, ?_⟩ <;> rintro rfl
        · exact h (.inr (.inl (BitVec.eq_of_toNat_eq (toNat_of_io hq (by simp)))))
        · exact h (.inr (.inr (.inl (BitVec.eq_of_toNat_eq (toNat_of_io hq (by simp))))))
        · exact h (.inr (.inr (.inr (BitVec.eq_of_toNat_eq (toNat_of_io hq (by simp))))))
    · by_cases hd : r = .dma
      · subst hd
        show regionRead (dmaWrite v s) _ = _
        rw [dmaWrite_rest]
        have e1 : a = 0xFF46 := BitVec.eq_of_toNat_eq hav
        subst e1
        cases hb : regionOf b.toNat with
        | oam p =>
          have := (regionOf_oam_iff _ _).1 hb
          rw [if_neg (by decide), if_pos rfl] at h
          omega
        | io q => exact absurd ⟨q, hb⟩ hio
        | _ => rfl
      · exact regionRead_ioWrite v s r _ hd (fun q hq => hio ⟨q, hq⟩)
  | hram o =>
    obtain ⟨h1, h2, h3⟩ := (regionOf_hram_iff _ _).1 ha
    rw [if_neg (by omega), if_neg (by omega), if_neg (by omega), if_neg (by rintro rfl; simp at h1),
      if_neg (by rintro rfl; simp at h1)] at h
    have := toNat_ne h
    cases hb : regionOf b.toNat with
    | hram p =>
      obtain ⟨k1, k2, k3⟩ := (regionOf_hram_iff _ _).1 hb
      exact Memory.read_write_other _ _ (by omega)
    | io r => cases r <;> rfl
    | _ => rfl
  | ie =>
    have h1 := (regionOf_ie_iff _).1 ha
    rw [if_neg (by omega), if_neg (by omega), if_neg (by omega), if_neg (by rintro rfl; simp at h1),
      if_neg (by rintro rfl; simp at h1)] at h
    have := toNat_ne h
    cases hb : regionOf b.toNat with
    | ie => have := (regionOf_ie_iff _).1 hb; omega
    | io r => cases r <;> rfl
    | _ => rfl

end Sys2Proof.Machine
end

