-- ==== Sys2Proof/Laws/State.lean ====
section
/-! SUPPORT. One lemma per component of State for each register update, and what each update writes. -/

namespace Sys2Proof.Machine

@[simp] theorem setSp_cfg (v : Word) (s : State) : (setSp v s).cfg = s.cfg := rfl
@[simp] theorem setSp_ic (v : Word) (s : State) : (setSp v s).ic = s.ic := rfl
@[simp] theorem setSp_timer (v : Word) (s : State) : (setSp v s).timer = s.timer := rfl
@[simp] theorem setSp_ppu (v : Word) (s : State) : (setSp v s).ppu = s.ppu := rfl
@[simp] theorem setSp_joy (v : Word) (s : State) : (setSp v s).joy = s.joy := rfl
@[simp] theorem setSp_sound (v : Word) (s : State) : (setSp v s).sound = s.sound := rfl
@[simp] theorem setSp_cart (v : Word) (s : State) : (setSp v s).cart = s.cart := rfl
@[simp] theorem setSp_wram (v : Word) (s : State) : (setSp v s).wram = s.wram := rfl
@[simp] theorem setSp_hram (v : Word) (s : State) : (setSp v s).hram = s.hram := rfl
@[simp] theorem setSp_sched (v : Word) (s : State) : (setSp v s).sched = s.sched := rfl
@[simp] theorem setSp_host (v : Word) (s : State) : (setSp v s).host = s.host := rfl

@[simp] theorem setPc_cfg (v : Word) (s : State) : (setPc v s).cfg = s.cfg := rfl
@[simp] theorem setPc_ic (v : Word) (s : State) : (setPc v s).ic = s.ic := rfl
@[simp] theorem setPc_timer (v : Word) (s : State) : (setPc v s).timer = s.timer := rfl
@[simp] theorem setPc_ppu (v : Word) (s : State) : (setPc v s).ppu = s.ppu := rfl
@[simp] theorem setPc_joy (v : Word) (s : State) : (setPc v s).joy = s.joy := rfl
@[simp] theorem setPc_sound (v : Word) (s : State) : (setPc v s).sound = s.sound := rfl
@[simp] theorem setPc_cart (v : Word) (s : State) : (setPc v s).cart = s.cart := rfl
@[simp] theorem setPc_wram (v : Word) (s : State) : (setPc v s).wram = s.wram := rfl
@[simp] theorem setPc_hram (v : Word) (s : State) : (setPc v s).hram = s.hram := rfl
@[simp] theorem setPc_sched (v : Word) (s : State) : (setPc v s).sched = s.sched := rfl
@[simp] theorem setPc_host (v : Word) (s : State) : (setPc v s).host = s.host := rfl

@[simp] theorem setBc_cfg (v : Word) (s : State) : (setBc v s).cfg = s.cfg := rfl
@[simp] theorem setBc_ic (v : Word) (s : State) : (setBc v s).ic = s.ic := rfl
@[simp] theorem setBc_timer (v : Word) (s : State) : (setBc v s).timer = s.timer := rfl
@[simp] theorem setBc_ppu (v : Word) (s : State) : (setBc v s).ppu = s.ppu := rfl
@[simp] theorem setBc_joy (v : Word) (s : State) : (setBc v s).joy = s.joy := rfl
@[simp] theorem setBc_sound (v : Word) (s : State) : (setBc v s).sound = s.sound := rfl
@[simp] theorem setBc_cart (v : Word) (s : State) : (setBc v s).cart = s.cart := rfl
@[simp] theorem setBc_wram (v : Word) (s : State) : (setBc v s).wram = s.wram := rfl
@[simp] theorem setBc_hram (v : Word) (s : State) : (setBc v s).hram = s.hram := rfl
@[simp] theorem setBc_sched (v : Word) (s : State) : (setBc v s).sched = s.sched := rfl
@[simp] theorem setBc_host (v : Word) (s : State) : (setBc v s).host = s.host := rfl

@[simp] theorem setDe_cfg (v : Word) (s : State) : (setDe v s).cfg = s.cfg := rfl
@[simp] theorem setDe_ic (v : Word) (s : State) : (setDe v s).ic = s.ic := rfl
@[simp] theorem setDe_timer (v : Word) (s : State) : (setDe v s).timer = s.timer := rfl
@[simp] theorem setDe_ppu (v : Word) (s : State) : (setDe v s).ppu = s.ppu := rfl
@[simp] theorem setDe_joy (v : Word) (s : State) : (setDe v s).joy = s.joy := rfl
@[simp] theorem setDe_sound (v : Word) (s : State) : (setDe v s).sound = s.sound := rfl
@[simp] theorem setDe_cart (v : Word) (s : State) : (setDe v s).cart = s.cart := rfl
@[simp] theorem setDe_wram (v : Word) (s : State) : (setDe v s).wram = s.wram := rfl
@[simp] theorem setDe_hram (v : Word) (s : State) : (setDe v s).hram = s.hram := rfl
@[simp] theorem setDe_sched (v : Word) (s : State) : (setDe v s).sched = s.sched := rfl
@[simp] theorem setDe_host (v : Word) (s : State) : (setDe v s).host = s.host := rfl

@[simp] theorem setHl_cfg (v : Word) (s : State) : (setHl v s).cfg = s.cfg := rfl
@[simp] theorem setHl_ic (v : Word) (s : State) : (setHl v s).ic = s.ic := rfl
@[simp] theorem setHl_timer (v : Word) (s : State) : (setHl v s).timer = s.timer := rfl
@[simp] theorem setHl_ppu (v : Word) (s : State) : (setHl v s).ppu = s.ppu := rfl
@[simp] theorem setHl_joy (v : Word) (s : State) : (setHl v s).joy = s.joy := rfl
@[simp] theorem setHl_sound (v : Word) (s : State) : (setHl v s).sound = s.sound := rfl
@[simp] theorem setHl_cart (v : Word) (s : State) : (setHl v s).cart = s.cart := rfl
@[simp] theorem setHl_wram (v : Word) (s : State) : (setHl v s).wram = s.wram := rfl
@[simp] theorem setHl_hram (v : Word) (s : State) : (setHl v s).hram = s.hram := rfl
@[simp] theorem setHl_sched (v : Word) (s : State) : (setHl v s).sched = s.sched := rfl
@[simp] theorem setHl_host (v : Word) (s : State) : (setHl v s).host = s.host := rfl

@[simp] theorem setAf_cfg (v : Word) (s : State) : (setAf v s).cfg = s.cfg := rfl
@[simp] theorem setAf_ic (v : Word) (s : State) : (setAf v s).ic = s.ic := rfl
@[simp] theorem setAf_timer (v : Word) (s : State) : (setAf v s).timer = s.timer := rfl
@[simp] theorem setAf_ppu (v : Word) (s : State) : (setAf v s).ppu = s.ppu := rfl
@[simp] theorem setAf_joy (v : Word) (s : State) : (setAf v s).joy = s.joy := rfl
@[simp] theorem setAf_sound (v : Word) (s : State) : (setAf v s).sound = s.sound := rfl
@[simp] theorem setAf_cart (v : Word) (s : State) : (setAf v s).cart = s.cart := rfl
@[simp] theorem setAf_wram (v : Word) (s : State) : (setAf v s).wram = s.wram := rfl
@[simp] theorem setAf_hram (v : Word) (s : State) : (setAf v s).hram = s.hram := rfl
@[simp] theorem setAf_sched (v : Word) (s : State) : (setAf v s).sched = s.sched := rfl
@[simp] theorem setAf_host (v : Word) (s : State) : (setAf v s).host = s.host := rfl

@[simp] theorem setFlags_cfg (fl : Flags) (s : State) : (setFlags fl s).cfg = s.cfg := rfl
@[simp] theorem setFlags_ic (fl : Flags) (s : State) : (setFlags fl s).ic = s.ic := rfl
@[simp] theorem setFlags_timer (fl : Flags) (s : State) : (setFlags fl s).timer = s.timer := rfl
@[simp] theorem setFlags_ppu (fl : Flags) (s : State) : (setFlags fl s).ppu = s.ppu := rfl
@[simp] theorem setFlags_joy (fl : Flags) (s : State) : (setFlags fl s).joy = s.joy := rfl
@[simp] theorem setFlags_sound (fl : Flags) (s : State) : (setFlags fl s).sound = s.sound := rfl
@[simp] theorem setFlags_cart (fl : Flags) (s : State) : (setFlags fl s).cart = s.cart := rfl
@[simp] theorem setFlags_wram (fl : Flags) (s : State) : (setFlags fl s).wram = s.wram := rfl
@[simp] theorem setFlags_hram (fl : Flags) (s : State) : (setFlags fl s).hram = s.hram := rfl
@[simp] theorem setFlags_sched (fl : Flags) (s : State) : (setFlags fl s).sched = s.sched := rfl
@[simp] theorem setFlags_host (fl : Flags) (s : State) : (setFlags fl s).host = s.host := rfl

@[simp] theorem setF_cfg (v : Byte) (s : State) : (setF v s).cfg = s.cfg := rfl
@[simp] theorem setF_ic (v : Byte) (s : State) : (setF v s).ic = s.ic := rfl
@[simp] theorem setF_timer (v : Byte) (s : State) : (setF v s).timer = s.timer := rfl
@[simp] theorem setF_ppu (v : Byte) (s : State) : (setF v s).ppu = s.ppu := rfl
@[simp] theorem setF_joy (v : Byte) (s : State) : (setF v s).joy = s.joy := rfl
@[simp] theorem setF_sound (v : Byte) (s : State) : (setF v s).sound = s.sound := rfl
@[simp] theorem setF_cart (v : Byte) (s : State) : (setF v s).cart = s.cart := rfl
@[simp] theorem setF_wram (v : Byte) (s : State) : (setF v s).wram = s.wram := rfl
@[simp] theorem setF_hram (v : Byte) (s : State) : (setF v s).hram = s.hram := rfl
@[simp] theorem setF_sched (v : Byte) (s : State) : (setF v s).sched = s.sched := rfl
@[simp] theorem setF_host (v : Byte) (s : State) : (setF v s).host = s.host := rfl

@[simp] theorem addCycles_cfg (n : Nat) (s : State) : (addCycles n s).cfg = s.cfg := rfl
@[simp] theorem addCycles_ic (n : Nat) (s : State) : (addCycles n s).ic = s.ic := rfl
@[simp] theorem addCycles_timer (n : Nat) (s : State) : (addCycles n s).timer = s.timer := rfl
@[simp] theorem addCycles_ppu (n : Nat) (s : State) : (addCycles n s).ppu = s.ppu := rfl
@[simp] theorem addCycles_joy (n : Nat) (s : State) : (addCycles n s).joy = s.joy := rfl
@[simp] theorem addCycles_sound (n : Nat) (s : State) : (addCycles n s).sound = s.sound := rfl
@[simp] theorem addCycles_cart (n : Nat) (s : State) : (addCycles n s).cart = s.cart := rfl
@[simp] theorem addCycles_wram (n : Nat) (s : State) : (addCycles n s).wram = s.wram := rfl
@[simp] theorem addCycles_hram (n : Nat) (s : State) : (addCycles n s).hram = s.hram := rfl
@[simp] theorem addCycles_sched (n : Nat) (s : State) : (addCycles n s).sched = s.sched := rfl
@[simp] theorem addCycles_host (n : Nat) (s : State) : (addCycles n s).host = s.host := rfl

@[simp] theorem setIme_cfg (v : Bool) (s : State) : (setIme v s).cfg = s.cfg := rfl
@[simp] theorem setIme_ic (v : Bool) (s : State) : (setIme v s).ic = s.ic := rfl
@[simp] theorem setIme_timer (v : Bool) (s : State) : (setIme v s).timer = s.timer := rfl
@[simp] theorem setIme_ppu (v : Bool) (s : State) : (setIme v s).ppu = s.ppu := rfl
@[simp] theorem setIme_joy (v : Bool) (s : State) : (setIme v s).joy = s.joy := rfl
@[simp] theorem setIme_sound (v : Bool) (s : State) : (setIme v s).sound = s.sound := rfl
@[simp] theorem setIme_cart (v : Bool) (s : State) : (setIme v s).cart = s.cart := rfl
@[simp] theorem setIme_wram (v : Bool) (s : State) : (setIme v s).wram = s.wram := rfl
@[simp] theorem setIme_hram (v : Bool) (s : State) : (setIme v s).hram = s.hram := rfl
@[simp] theorem setIme_sched (v : Bool) (s : State) : (setIme v s).sched = s.sched := rfl
@[simp] theorem setIme_host (v : Bool) (s : State) : (setIme v s).host = s.host := rfl

@[simp] theorem haltCpu_cfg (s : State) : (haltCpu s).cfg = s.cfg := rfl
@[simp] theorem haltCpu_ic (s : State) : (haltCpu s).ic = s.ic := rfl
@[simp] theorem haltCpu_timer (s : State) : (haltCpu s).timer = s.timer := rfl
@[simp] theorem haltCpu_ppu (s : State) : (haltCpu s).ppu = s.ppu := rfl
@[simp] theorem haltCpu_joy (s : State) : (haltCpu s).joy = s.joy := rfl
@[simp] theorem haltCpu_sound (s : State) : (haltCpu s).sound = s.sound := rfl
@[simp] theorem haltCpu_cart (s : State) : (haltCpu s).cart = s.cart := rfl
@[simp] theorem haltCpu_wram (s : State) : (haltCpu s).wram = s.wram := rfl
@[simp] theorem haltCpu_hram (s : State) : (haltCpu s).hram = s.hram := rfl
@[simp] theorem haltCpu_sched (s : State) : (haltCpu s).sched = s.sched := rfl
@[simp] theorem haltCpu_host (s : State) : (haltCpu s).host = s.host := rfl

@[simp] theorem stopCpu_cfg (s : State) : (stopCpu s).cfg = s.cfg := rfl
@[simp] theorem stopCpu_ic (s : State) : (stopCpu s).ic = s.ic := rfl
@[simp] theorem stopCpu_timer (s : State) : (stopCpu s).timer = s.timer := rfl
@[simp] theorem stopCpu_ppu (s : State) : (stopCpu s).ppu = s.ppu := rfl
@[simp] theorem stopCpu_joy (s : State) : (stopCpu s).joy = s.joy := rfl
@[simp] theorem stopCpu_sound (s : State) : (stopCpu s).sound = s.sound := rfl
@[simp] theorem stopCpu_cart (s : State) : (stopCpu s).cart = s.cart := rfl
@[simp] theorem stopCpu_wram (s : State) : (stopCpu s).wram = s.wram := rfl
@[simp] theorem stopCpu_hram (s : State) : (stopCpu s).hram = s.hram := rfl
@[simp] theorem stopCpu_sched (s : State) : (stopCpu s).sched = s.sched := rfl
@[simp] theorem stopCpu_host (s : State) : (stopCpu s).host = s.host := rfl

@[simp] theorem setReg8_cfg (r : R8) (v : Byte) (s : State) : (setReg8 r v s).cfg = s.cfg := by cases r <;> rfl
@[simp] theorem setReg8_ic (r : R8) (v : Byte) (s : State) : (setReg8 r v s).ic = s.ic := by cases r <;> rfl
@[simp] theorem setReg8_timer (r : R8) (v : Byte) (s : State) : (setReg8 r v s).timer = s.timer := by cases r <;> rfl
@[simp] theorem setReg8_ppu (r : R8) (v : Byte) (s : State) : (setReg8 r v s).ppu = s.ppu := by cases r <;> rfl
@[simp] theorem setReg8_joy (r : R8) (v : Byte) (s : State) : (setReg8 r v s).joy = s.joy := by cases r <;> rfl
@[simp] theorem setReg8_sound (r : R8) (v : Byte) (s : State) : (setReg8 r v s).sound = s.sound := by cases r <;> rfl
@[simp] theorem setReg8_cart (r : R8) (v : Byte) (s : State) : (setReg8 r v s).cart = s.cart := by cases r <;> rfl
@[simp] theorem setReg8_wram (r : R8) (v : Byte) (s : State) : (setReg8 r v s).wram = s.wram := by cases r <;> rfl
@[simp] theorem setReg8_hram (r : R8) (v : Byte) (s : State) : (setReg8 r v s).hram = s.hram := by cases r <;> rfl
@[simp] theorem setReg8_sched (r : R8) (v : Byte) (s : State) : (setReg8 r v s).sched = s.sched := by cases r <;> rfl
@[simp] theorem setReg8_host (r : R8) (v : Byte) (s : State) : (setReg8 r v s).host = s.host := by cases r <;> rfl

@[simp] theorem setReg16_cfg (p : R16) (v : Word) (s : State) : (setReg16 p v s).cfg = s.cfg := by cases p <;> rfl
@[simp] theorem setReg16_ic (p : R16) (v : Word) (s : State) : (setReg16 p v s).ic = s.ic := by cases p <;> rfl
@[simp] theorem setReg16_timer (p : R16) (v : Word) (s : State) : (setReg16 p v s).timer = s.timer := by cases p <;> rfl
@[simp] theorem setReg16_ppu (p : R16) (v : Word) (s : State) : (setReg16 p v s).ppu = s.ppu := by cases p <;> rfl
@[simp] theorem setReg16_joy (p : R16) (v : Word) (s : State) : (setReg16 p v s).joy = s.joy := by cases p <;> rfl
@[simp] theorem setReg16_sound (p : R16) (v : Word) (s : State) : (setReg16 p v s).sound = s.sound := by cases p <;> rfl
@[simp] theorem setReg16_cart (p : R16) (v : Word) (s : State) : (setReg16 p v s).cart = s.cart := by cases p <;> rfl
@[simp] theorem setReg16_wram (p : R16) (v : Word) (s : State) : (setReg16 p v s).wram = s.wram := by cases p <;> rfl
@[simp] theorem setReg16_hram (p : R16) (v : Word) (s : State) : (setReg16 p v s).hram = s.hram := by cases p <;> rfl
@[simp] theorem setReg16_sched (p : R16) (v : Word) (s : State) : (setReg16 p v s).sched = s.sched := by cases p <;> rfl
@[simp] theorem setReg16_host (p : R16) (v : Word) (s : State) : (setReg16 p v s).host = s.host := by cases p <;> rfl

@[simp] theorem setStackReg_cfg (p : R16Stack) (v : Word) (s : State) : (setStackReg p v s).cfg = s.cfg := by cases p <;> rfl
@[simp] theorem setStackReg_ic (p : R16Stack) (v : Word) (s : State) : (setStackReg p v s).ic = s.ic := by cases p <;> rfl
@[simp] theorem setStackReg_timer (p : R16Stack) (v : Word) (s : State) : (setStackReg p v s).timer = s.timer := by cases p <;> rfl
@[simp] theorem setStackReg_ppu (p : R16Stack) (v : Word) (s : State) : (setStackReg p v s).ppu = s.ppu := by cases p <;> rfl
@[simp] theorem setStackReg_joy (p : R16Stack) (v : Word) (s : State) : (setStackReg p v s).joy = s.joy := by cases p <;> rfl
@[simp] theorem setStackReg_sound (p : R16Stack) (v : Word) (s : State) : (setStackReg p v s).sound = s.sound := by cases p <;> rfl
@[simp] theorem setStackReg_cart (p : R16Stack) (v : Word) (s : State) : (setStackReg p v s).cart = s.cart := by cases p <;> rfl
@[simp] theorem setStackReg_wram (p : R16Stack) (v : Word) (s : State) : (setStackReg p v s).wram = s.wram := by cases p <;> rfl
@[simp] theorem setStackReg_hram (p : R16Stack) (v : Word) (s : State) : (setStackReg p v s).hram = s.hram := by cases p <;> rfl
@[simp] theorem setStackReg_sched (p : R16Stack) (v : Word) (s : State) : (setStackReg p v s).sched = s.sched := by cases p <;> rfl
@[simp] theorem setStackReg_host (p : R16Stack) (v : Word) (s : State) : (setStackReg p v s).host = s.host := by cases p <;> rfl

@[simp] theorem setSp_cpu (v : Word) (s : State) : (setSp v s).cpu = { s.cpu with sp := v } := rfl
@[simp] theorem setPc_cpu (v : Word) (s : State) : (setPc v s).cpu = { s.cpu with pc := v } := rfl
@[simp] theorem setBc_cpu (v : Word) (s : State) : (setBc v s).cpu = { s.cpu with b := hiByte v, c := loByte v } := rfl
@[simp] theorem setDe_cpu (v : Word) (s : State) : (setDe v s).cpu = { s.cpu with d := hiByte v, e := loByte v } := rfl
@[simp] theorem setHl_cpu (v : Word) (s : State) : (setHl v s).cpu = { s.cpu with h := hiByte v, l := loByte v } := rfl
@[simp] theorem setAf_cpu (v : Word) (s : State) :
    (setAf v s).cpu = { s.cpu with a := hiByte v, f := loByte v &&& 0xF0 } := rfl
@[simp] theorem setFlags_cpu (fl : Flags) (s : State) : (setFlags fl s).cpu = { s.cpu with f := packFlags fl } := rfl
@[simp] theorem setF_cpu (v : Byte) (s : State) : (setF v s).cpu = { s.cpu with f := v &&& 0xF0 } := rfl
@[simp] theorem addCycles_cpu (n : Nat) (s : State) : (addCycles n s).cpu = { s.cpu with cycles := s.cpu.cycles + n } := rfl
@[simp] theorem setIme_cpu (v : Bool) (s : State) : (setIme v s).cpu = { s.cpu with ime := v } := rfl
@[simp] theorem haltCpu_cpu (s : State) : (haltCpu s).cpu = { s.cpu with halted := true } := rfl
@[simp] theorem stopCpu_cpu (s : State) : (stopCpu s).cpu = { s.cpu with stopped := true } := rfl

/-- An 8-bit register reads back the value written, and no other register changes (R100). -/
theorem reg8_setReg8 (r q : R8) (v : Byte) (s : State) : reg8 (setReg8 r v s) q = if q = r then v else reg8 s q := by
  cases r <;> cases q <;> rfl

/-- An 8-bit register write keeps F, SP, PC, IME, the HALT and STOP bits and the cycle counter. -/
theorem setReg8_cpu (r : R8) (v : Byte) (s : State) :
    (setReg8 r v s).cpu = { (setReg8 r v s).cpu with
      f := s.cpu.f, sp := s.cpu.sp, pc := s.cpu.pc, ime := s.cpu.ime, halted := s.cpu.halted, stopped := s.cpu.stopped,
      cycles := s.cpu.cycles } := by
  cases r <;> rfl

theorem joinBytes_toNat (hi lo : Byte) : (joinBytes hi lo).toNat = hi.toNat * 256 + lo.toNat := by
  have h := BitVec.toNat_append hi lo
  have hl := lo.isLt
  rw [← Nat.shiftLeft_add_eq_or_of_lt hl, Nat.shiftLeft_eq] at h
  exact h

theorem hiByte_toNat (w : Word) : (hiByte w).toNat = w.toNat / 256 := by
  have hw := w.isLt
  simp only [hiByte, BitVec.extractLsb'_toNat, Nat.shiftRight_eq_div_pow]
  omega

theorem loByte_toNat (w : Word) : (loByte w).toNat = w.toNat % 256 := by
  simp [loByte, BitVec.extractLsb'_toNat]

@[simp] theorem hiByte_joinBytes (hi lo : Byte) : hiByte (joinBytes hi lo) = hi := by
  have hh := hi.isLt
  have hl := lo.isLt
  apply BitVec.eq_of_toNat_eq
  rw [hiByte_toNat, joinBytes_toNat]
  omega

@[simp] theorem loByte_joinBytes (hi lo : Byte) : loByte (joinBytes hi lo) = lo := by
  have hl := lo.isLt
  apply BitVec.eq_of_toNat_eq
  rw [loByte_toNat, joinBytes_toNat]
  omega

@[simp] theorem joinBytes_hi_lo (w : Word) : joinBytes (hiByte w) (loByte w) = w := by
  apply BitVec.eq_of_toNat_eq
  rw [joinBytes_toNat, hiByte_toNat, loByte_toNat]
  omega

/-- A pair reads back the value written (R101). -/
@[simp] theorem reg16_setReg16 (p : R16) (v : Word) (s : State) : reg16 (setReg16 p v s) p = v := by
  cases p <;> simp [reg16, setReg16, bc, de, hl]

theorem packFlags_lowNibble (fl : Flags) : packFlags fl &&& 0x0F = 0 := by
  rcases fl with ⟨z, n, h, c⟩
  cases z <;> cases n <;> cases h <;> cases c <;> rfl

/-- The flags written are the flags read (R103). -/
@[simp] theorem flagsOf_setFlags (fl : Flags) (s : State) : flagsOf (setFlags fl s) = fl := by
  have key : ∀ z n h c : Bool, Flags.mk (bitOf (packFlags ⟨z, n, h, c⟩) 7) (bitOf (packFlags ⟨z, n, h, c⟩) 6)
      (bitOf (packFlags ⟨z, n, h, c⟩) 5) (bitOf (packFlags ⟨z, n, h, c⟩) 4) = ⟨z, n, h, c⟩ := by decide
  exact key fl.z fl.n fl.h fl.c

@[simp] theorem flagZ_setFlags (fl : Flags) (s : State) : flagZ (setFlags fl s) = fl.z := congrArg Flags.z (flagsOf_setFlags fl s)
@[simp] theorem flagN_setFlags (fl : Flags) (s : State) : flagN (setFlags fl s) = fl.n := congrArg Flags.n (flagsOf_setFlags fl s)
@[simp] theorem flagH_setFlags (fl : Flags) (s : State) : flagH (setFlags fl s) = fl.h := congrArg Flags.h (flagsOf_setFlags fl s)
@[simp] theorem flagC_setFlags (fl : Flags) (s : State) : flagC (setFlags fl s) = fl.c := congrArg Flags.c (flagsOf_setFlags fl s)

theorem masked_lowNibble (v : Byte) : v &&& 0xF0 &&& 0x0F = 0 := by
  rw [BitVec.and_assoc]; simp

/-- A value of F whose low nibble is 0 is its own four flags. -/
theorem packFlags_flagsOf (s : State) (h : s.cpu.f &&& 0x0F = 0) : packFlags (flagsOf s) = s.cpu.f := by
  have key : ∀ f : Byte, f &&& 0x0F = 0 →
      packFlags { z := bitOf f 7, n := bitOf f 6, h := bitOf f 5, c := bitOf f 4 } = f := by decide
  exact key _ h

end Sys2Proof.Machine
end

