-- ==== Sys2Proof/Laws/Decode.lean ====
section
/-! SUPPORT. Every instruction beside the primary entry its first byte selects (30_encoding.md R314, R318), and what the decoder does
with each kind of entry. -/

namespace Sys2Proof

open Machine (loByte hiByte joinBytes joinBytes_hi_lo)

/-- An instruction's bytes, with the entry its first byte selects and the operand it holds. -/
inductive EncodedFrom : Instr → Prop where
  | op (b : Byte) (i : Instr) (entry : entryOf b = .op i) (notStop : i ≠ .stop) (bytes : ∀ sl, encode sl i = [b]) : EncodedFrom i
  | imm8 (b : Byte) (f : Byte → Instr) (v : Byte) (entry : entryOf b = .imm8 f) (bytes : ∀ sl, encode sl (f v) = [b, v]) :
    EncodedFrom (f v)
  | imm16 (b : Byte) (f : Word → Instr) (v : Word) (entry : entryOf b = .imm16 f)
    (bytes : ∀ sl, encode sl (f v) = [b, loByte v, hiByte v]) : EncodedFrom (f v)
  | cb (b : Byte) (i : Instr) (entry : cbEntryOf b = i) (bytes : ∀ sl, encode sl i = [0xCB, b]) : EncodedFrom i
  | stop : EncodedFrom .stop

/-- Every instruction but the bare prefix row. -/
theorem encodedFrom (i : Instr) (h : i.wellFormed = true) : EncodedFrom i :=
  match i with
  | .prefixCb => absurd h (by decide)
  | .nop => .op 0x00 _ rfl nofun fun _ => rfl
  | .ldBcD16 d16 => .imm16 0x01 .ldBcD16 d16 rfl fun _ => rfl
  | .ldAtBcA => .op 0x02 _ rfl nofun fun _ => rfl
  | .incBc => .op 0x03 _ rfl nofun fun _ => rfl
  | .incB => .op 0x04 _ rfl nofun fun _ => rfl
  | .decB => .op 0x05 _ rfl nofun fun _ => rfl
  | .ldBD8 d8 => .imm8 0x06 .ldBD8 d8 rfl fun _ => rfl
  | .rlca => .op 0x07 _ rfl nofun fun _ => rfl
  | .ldAtA16Sp a16 => .imm16 0x08 .ldAtA16Sp a16 rfl fun _ => rfl
  | .addHlBc => .op 0x09 _ rfl nofun fun _ => rfl
  | .ldAAtBc => .op 0x0A _ rfl nofun fun _ => rfl
  | .decBc => .op 0x0B _ rfl nofun fun _ => rfl
  | .incC => .op 0x0C _ rfl nofun fun _ => rfl
  | .decC => .op 0x0D _ rfl nofun fun _ => rfl
  | .ldCD8 d8 => .imm8 0x0E .ldCD8 d8 rfl fun _ => rfl
  | .rrca => .op 0x0F _ rfl nofun fun _ => rfl
  | .stop => .stop
  | .ldDeD16 d16 => .imm16 0x11 .ldDeD16 d16 rfl fun _ => rfl
  | .ldAtDeA => .op 0x12 _ rfl nofun fun _ => rfl
  | .incDe => .op 0x13 _ rfl nofun fun _ => rfl
  | .incD => .op 0x14 _ rfl nofun fun _ => rfl
  | .decD => .op 0x15 _ rfl nofun fun _ => rfl
  | .ldDD8 d8 => .imm8 0x16 .ldDD8 d8 rfl fun _ => rfl
  | .rla => .op 0x17 _ rfl nofun fun _ => rfl
  | .jrE8 e8 => .imm8 0x18 .jrE8 e8 rfl fun _ => rfl
  | .addHlDe => .op 0x19 _ rfl nofun fun _ => rfl
  | .ldAAtDe => .op 0x1A _ rfl nofun fun _ => rfl
  | .decDe => .op 0x1B _ rfl nofun fun _ => rfl
  | .incE => .op 0x1C _ rfl nofun fun _ => rfl
  | .decE => .op 0x1D _ rfl nofun fun _ => rfl
  | .ldED8 d8 => .imm8 0x1E .ldED8 d8 rfl fun _ => rfl
  | .rra => .op 0x1F _ rfl nofun fun _ => rfl
  | .jrNzE8 e8 => .imm8 0x20 .jrNzE8 e8 rfl fun _ => rfl
  | .ldHlD16 d16 => .imm16 0x21 .ldHlD16 d16 rfl fun _ => rfl
  | .ldAtHliA => .op 0x22 _ rfl nofun fun _ => rfl
  | .incHl => .op 0x23 _ rfl nofun fun _ => rfl
  | .incH => .op 0x24 _ rfl nofun fun _ => rfl
  | .decH => .op 0x25 _ rfl nofun fun _ => rfl
  | .ldHD8 d8 => .imm8 0x26 .ldHD8 d8 rfl fun _ => rfl
  | .daa => .op 0x27 _ rfl nofun fun _ => rfl
  | .jrZE8 e8 => .imm8 0x28 .jrZE8 e8 rfl fun _ => rfl
  | .addHlHl => .op 0x29 _ rfl nofun fun _ => rfl
  | .ldAAtHli => .op 0x2A _ rfl nofun fun _ => rfl
  | .decHl => .op 0x2B _ rfl nofun fun _ => rfl
  | .incL => .op 0x2C _ rfl nofun fun _ => rfl
  | .decL => .op 0x2D _ rfl nofun fun _ => rfl
  | .ldLD8 d8 => .imm8 0x2E .ldLD8 d8 rfl fun _ => rfl
  | .cpl => .op 0x2F _ rfl nofun fun _ => rfl
  | .jrNcE8 e8 => .imm8 0x30 .jrNcE8 e8 rfl fun _ => rfl
  | .ldSpD16 d16 => .imm16 0x31 .ldSpD16 d16 rfl fun _ => rfl
  | .ldAtHldA => .op 0x32 _ rfl nofun fun _ => rfl
  | .incSp => .op 0x33 _ rfl nofun fun _ => rfl
  | .incAtHl => .op 0x34 _ rfl nofun fun _ => rfl
  | .decAtHl => .op 0x35 _ rfl nofun fun _ => rfl
  | .ldAtHlD8 d8 => .imm8 0x36 .ldAtHlD8 d8 rfl fun _ => rfl
  | .scf => .op 0x37 _ rfl nofun fun _ => rfl
  | .jrCE8 e8 => .imm8 0x38 .jrCE8 e8 rfl fun _ => rfl
  | .addHlSp => .op 0x39 _ rfl nofun fun _ => rfl
  | .ldAAtHld => .op 0x3A _ rfl nofun fun _ => rfl
  | .decSp => .op 0x3B _ rfl nofun fun _ => rfl
  | .incA => .op 0x3C _ rfl nofun fun _ => rfl
  | .decA => .op 0x3D _ rfl nofun fun _ => rfl
  | .ldAD8 d8 => .imm8 0x3E .ldAD8 d8 rfl fun _ => rfl
  | .ccf => .op 0x3F _ rfl nofun fun _ => rfl
  | .ldBB => .op 0x40 _ rfl nofun fun _ => rfl
  | .ldBC => .op 0x41 _ rfl nofun fun _ => rfl
  | .ldBD => .op 0x42 _ rfl nofun fun _ => rfl
  | .ldBE => .op 0x43 _ rfl nofun fun _ => rfl
  | .ldBH => .op 0x44 _ rfl nofun fun _ => rfl
  | .ldBL => .op 0x45 _ rfl nofun fun _ => rfl
  | .ldBAtHl => .op 0x46 _ rfl nofun fun _ => rfl
  | .ldBA => .op 0x47 _ rfl nofun fun _ => rfl
  | .ldCB => .op 0x48 _ rfl nofun fun _ => rfl
  | .ldCC => .op 0x49 _ rfl nofun fun _ => rfl
  | .ldCD => .op 0x4A _ rfl nofun fun _ => rfl
  | .ldCE => .op 0x4B _ rfl nofun fun _ => rfl
  | .ldCH => .op 0x4C _ rfl nofun fun _ => rfl
  | .ldCL => .op 0x4D _ rfl nofun fun _ => rfl
  | .ldCAtHl => .op 0x4E _ rfl nofun fun _ => rfl
  | .ldCA => .op 0x4F _ rfl nofun fun _ => rfl
  | .ldDB => .op 0x50 _ rfl nofun fun _ => rfl
  | .ldDC => .op 0x51 _ rfl nofun fun _ => rfl
  | .ldDD => .op 0x52 _ rfl nofun fun _ => rfl
  | .ldDE => .op 0x53 _ rfl nofun fun _ => rfl
  | .ldDH => .op 0x54 _ rfl nofun fun _ => rfl
  | .ldDL => .op 0x55 _ rfl nofun fun _ => rfl
  | .ldDAtHl => .op 0x56 _ rfl nofun fun _ => rfl
  | .ldDA => .op 0x57 _ rfl nofun fun _ => rfl
  | .ldEB => .op 0x58 _ rfl nofun fun _ => rfl
  | .ldEC => .op 0x59 _ rfl nofun fun _ => rfl
  | .ldED => .op 0x5A _ rfl nofun fun _ => rfl
  | .ldEE => .op 0x5B _ rfl nofun fun _ => rfl
  | .ldEH => .op 0x5C _ rfl nofun fun _ => rfl
  | .ldEL => .op 0x5D _ rfl nofun fun _ => rfl
  | .ldEAtHl => .op 0x5E _ rfl nofun fun _ => rfl
  | .ldEA => .op 0x5F _ rfl nofun fun _ => rfl
  | .ldHB => .op 0x60 _ rfl nofun fun _ => rfl
  | .ldHC => .op 0x61 _ rfl nofun fun _ => rfl
  | .ldHD => .op 0x62 _ rfl nofun fun _ => rfl
  | .ldHE => .op 0x63 _ rfl nofun fun _ => rfl
  | .ldHH => .op 0x64 _ rfl nofun fun _ => rfl
  | .ldHL => .op 0x65 _ rfl nofun fun _ => rfl
  | .ldHAtHl => .op 0x66 _ rfl nofun fun _ => rfl
  | .ldHA => .op 0x67 _ rfl nofun fun _ => rfl
  | .ldLB => .op 0x68 _ rfl nofun fun _ => rfl
  | .ldLC => .op 0x69 _ rfl nofun fun _ => rfl
  | .ldLD => .op 0x6A _ rfl nofun fun _ => rfl
  | .ldLE => .op 0x6B _ rfl nofun fun _ => rfl
  | .ldLH => .op 0x6C _ rfl nofun fun _ => rfl
  | .ldLL => .op 0x6D _ rfl nofun fun _ => rfl
  | .ldLAtHl => .op 0x6E _ rfl nofun fun _ => rfl
  | .ldLA => .op 0x6F _ rfl nofun fun _ => rfl
  | .ldAtHlB => .op 0x70 _ rfl nofun fun _ => rfl
  | .ldAtHlC => .op 0x71 _ rfl nofun fun _ => rfl
  | .ldAtHlD => .op 0x72 _ rfl nofun fun _ => rfl
  | .ldAtHlE => .op 0x73 _ rfl nofun fun _ => rfl
  | .ldAtHlH => .op 0x74 _ rfl nofun fun _ => rfl
  | .ldAtHlL => .op 0x75 _ rfl nofun fun _ => rfl
  | .halt => .op 0x76 _ rfl nofun fun _ => rfl
  | .ldAtHlA => .op 0x77 _ rfl nofun fun _ => rfl
  | .ldAB => .op 0x78 _ rfl nofun fun _ => rfl
  | .ldAC => .op 0x79 _ rfl nofun fun _ => rfl
  | .ldAD => .op 0x7A _ rfl nofun fun _ => rfl
  | .ldAE => .op 0x7B _ rfl nofun fun _ => rfl
  | .ldAH => .op 0x7C _ rfl nofun fun _ => rfl
  | .ldAL => .op 0x7D _ rfl nofun fun _ => rfl
  | .ldAAtHl => .op 0x7E _ rfl nofun fun _ => rfl
  | .ldAA => .op 0x7F _ rfl nofun fun _ => rfl
  | .addAB => .op 0x80 _ rfl nofun fun _ => rfl
  | .addAC => .op 0x81 _ rfl nofun fun _ => rfl
  | .addAD => .op 0x82 _ rfl nofun fun _ => rfl
  | .addAE => .op 0x83 _ rfl nofun fun _ => rfl
  | .addAH => .op 0x84 _ rfl nofun fun _ => rfl
  | .addAL => .op 0x85 _ rfl nofun fun _ => rfl
  | .addAAtHl => .op 0x86 _ rfl nofun fun _ => rfl
  | .addAA => .op 0x87 _ rfl nofun fun _ => rfl
  | .adcAB => .op 0x88 _ rfl nofun fun _ => rfl
  | .adcAC => .op 0x89 _ rfl nofun fun _ => rfl
  | .adcAD => .op 0x8A _ rfl nofun fun _ => rfl
  | .adcAE => .op 0x8B _ rfl nofun fun _ => rfl
  | .adcAH => .op 0x8C _ rfl nofun fun _ => rfl
  | .adcAL => .op 0x8D _ rfl nofun fun _ => rfl
  | .adcAAtHl => .op 0x8E _ rfl nofun fun _ => rfl
  | .adcAA => .op 0x8F _ rfl nofun fun _ => rfl
  | .subB => .op 0x90 _ rfl nofun fun _ => rfl
  | .subC => .op 0x91 _ rfl nofun fun _ => rfl
  | .subD => .op 0x92 _ rfl nofun fun _ => rfl
  | .subE => .op 0x93 _ rfl nofun fun _ => rfl
  | .subH => .op 0x94 _ rfl nofun fun _ => rfl
  | .subL => .op 0x95 _ rfl nofun fun _ => rfl
  | .subAtHl => .op 0x96 _ rfl nofun fun _ => rfl
  | .subA => .op 0x97 _ rfl nofun fun _ => rfl
  | .sbcAB => .op 0x98 _ rfl nofun fun _ => rfl
  | .sbcAC => .op 0x99 _ rfl nofun fun _ => rfl
  | .sbcAD => .op 0x9A _ rfl nofun fun _ => rfl
  | .sbcAE => .op 0x9B _ rfl nofun fun _ => rfl
  | .sbcAH => .op 0x9C _ rfl nofun fun _ => rfl
  | .sbcAL => .op 0x9D _ rfl nofun fun _ => rfl
  | .sbcAAtHl => .op 0x9E _ rfl nofun fun _ => rfl
  | .sbcAA => .op 0x9F _ rfl nofun fun _ => rfl
  | .andB => .op 0xA0 _ rfl nofun fun _ => rfl
  | .andC => .op 0xA1 _ rfl nofun fun _ => rfl
  | .andD => .op 0xA2 _ rfl nofun fun _ => rfl
  | .andE => .op 0xA3 _ rfl nofun fun _ => rfl
  | .andH => .op 0xA4 _ rfl nofun fun _ => rfl
  | .andL => .op 0xA5 _ rfl nofun fun _ => rfl
  | .andAtHl => .op 0xA6 _ rfl nofun fun _ => rfl
  | .andA => .op 0xA7 _ rfl nofun fun _ => rfl
  | .xorB => .op 0xA8 _ rfl nofun fun _ => rfl
  | .xorC => .op 0xA9 _ rfl nofun fun _ => rfl
  | .xorD => .op 0xAA _ rfl nofun fun _ => rfl
  | .xorE => .op 0xAB _ rfl nofun fun _ => rfl
  | .xorH => .op 0xAC _ rfl nofun fun _ => rfl
  | .xorL => .op 0xAD _ rfl nofun fun _ => rfl
  | .xorAtHl => .op 0xAE _ rfl nofun fun _ => rfl
  | .xorA => .op 0xAF _ rfl nofun fun _ => rfl
  | .orB => .op 0xB0 _ rfl nofun fun _ => rfl
  | .orC => .op 0xB1 _ rfl nofun fun _ => rfl
  | .orD => .op 0xB2 _ rfl nofun fun _ => rfl
  | .orE => .op 0xB3 _ rfl nofun fun _ => rfl
  | .orH => .op 0xB4 _ rfl nofun fun _ => rfl
  | .orL => .op 0xB5 _ rfl nofun fun _ => rfl
  | .orAtHl => .op 0xB6 _ rfl nofun fun _ => rfl
  | .orA => .op 0xB7 _ rfl nofun fun _ => rfl
  | .cpB => .op 0xB8 _ rfl nofun fun _ => rfl
  | .cpC => .op 0xB9 _ rfl nofun fun _ => rfl
  | .cpD => .op 0xBA _ rfl nofun fun _ => rfl
  | .cpE => .op 0xBB _ rfl nofun fun _ => rfl
  | .cpH => .op 0xBC _ rfl nofun fun _ => rfl
  | .cpL => .op 0xBD _ rfl nofun fun _ => rfl
  | .cpAtHl => .op 0xBE _ rfl nofun fun _ => rfl
  | .cpA => .op 0xBF _ rfl nofun fun _ => rfl
  | .retNz => .op 0xC0 _ rfl nofun fun _ => rfl
  | .popBc => .op 0xC1 _ rfl nofun fun _ => rfl
  | .jpNzA16 a16 => .imm16 0xC2 .jpNzA16 a16 rfl fun _ => rfl
  | .jpA16 a16 => .imm16 0xC3 .jpA16 a16 rfl fun _ => rfl
  | .callNzA16 a16 => .imm16 0xC4 .callNzA16 a16 rfl fun _ => rfl
  | .pushBc => .op 0xC5 _ rfl nofun fun _ => rfl
  | .addAD8 d8 => .imm8 0xC6 .addAD8 d8 rfl fun _ => rfl
  | .rst00 => .op 0xC7 _ rfl nofun fun _ => rfl
  | .retZ => .op 0xC8 _ rfl nofun fun _ => rfl
  | .ret => .op 0xC9 _ rfl nofun fun _ => rfl
  | .jpZA16 a16 => .imm16 0xCA .jpZA16 a16 rfl fun _ => rfl
  | .callZA16 a16 => .imm16 0xCC .callZA16 a16 rfl fun _ => rfl
  | .callA16 a16 => .imm16 0xCD .callA16 a16 rfl fun _ => rfl
  | .adcAD8 d8 => .imm8 0xCE .adcAD8 d8 rfl fun _ => rfl
  | .rst08 => .op 0xCF _ rfl nofun fun _ => rfl
  | .retNc => .op 0xD0 _ rfl nofun fun _ => rfl
  | .popDe => .op 0xD1 _ rfl nofun fun _ => rfl
  | .jpNcA16 a16 => .imm16 0xD2 .jpNcA16 a16 rfl fun _ => rfl
  | .illegalD3 => .op 0xD3 _ rfl nofun fun _ => rfl
  | .callNcA16 a16 => .imm16 0xD4 .callNcA16 a16 rfl fun _ => rfl
  | .pushDe => .op 0xD5 _ rfl nofun fun _ => rfl
  | .subD8 d8 => .imm8 0xD6 .subD8 d8 rfl fun _ => rfl
  | .rst10 => .op 0xD7 _ rfl nofun fun _ => rfl
  | .retC => .op 0xD8 _ rfl nofun fun _ => rfl
  | .reti => .op 0xD9 _ rfl nofun fun _ => rfl
  | .jpCA16 a16 => .imm16 0xDA .jpCA16 a16 rfl fun _ => rfl
  | .illegalDB => .op 0xDB _ rfl nofun fun _ => rfl
  | .callCA16 a16 => .imm16 0xDC .callCA16 a16 rfl fun _ => rfl
  | .illegalDD => .op 0xDD _ rfl nofun fun _ => rfl
  | .sbcAD8 d8 => .imm8 0xDE .sbcAD8 d8 rfl fun _ => rfl
  | .rst18 => .op 0xDF _ rfl nofun fun _ => rfl
  | .ldhAtA8A a8 => .imm8 0xE0 .ldhAtA8A a8 rfl fun _ => rfl
  | .popHl => .op 0xE1 _ rfl nofun fun _ => rfl
  | .ldAtCA => .op 0xE2 _ rfl nofun fun _ => rfl
  | .illegalE3 => .op 0xE3 _ rfl nofun fun _ => rfl
  | .illegalE4 => .op 0xE4 _ rfl nofun fun _ => rfl
  | .pushHl => .op 0xE5 _ rfl nofun fun _ => rfl
  | .andD8 d8 => .imm8 0xE6 .andD8 d8 rfl fun _ => rfl
  | .rst20 => .op 0xE7 _ rfl nofun fun _ => rfl
  | .addSpE8 e8 => .imm8 0xE8 .addSpE8 e8 rfl fun _ => rfl
  | .jpHl => .op 0xE9 _ rfl nofun fun _ => rfl
  | .ldAtA16A a16 => .imm16 0xEA .ldAtA16A a16 rfl fun _ => rfl
  | .illegalEB => .op 0xEB _ rfl nofun fun _ => rfl
  | .illegalEC => .op 0xEC _ rfl nofun fun _ => rfl
  | .illegalED => .op 0xED _ rfl nofun fun _ => rfl
  | .xorD8 d8 => .imm8 0xEE .xorD8 d8 rfl fun _ => rfl
  | .rst28 => .op 0xEF _ rfl nofun fun _ => rfl
  | .ldhAAtA8 a8 => .imm8 0xF0 .ldhAAtA8 a8 rfl fun _ => rfl
  | .popAf => .op 0xF1 _ rfl nofun fun _ => rfl
  | .ldAAtC => .op 0xF2 _ rfl nofun fun _ => rfl
  | .di => .op 0xF3 _ rfl nofun fun _ => rfl
  | .illegalF4 => .op 0xF4 _ rfl nofun fun _ => rfl
  | .pushAf => .op 0xF5 _ rfl nofun fun _ => rfl
  | .orD8 d8 => .imm8 0xF6 .orD8 d8 rfl fun _ => rfl
  | .rst30 => .op 0xF7 _ rfl nofun fun _ => rfl
  | .ldHlSpE8 e8 => .imm8 0xF8 .ldHlSpE8 e8 rfl fun _ => rfl
  | .ldSpHl => .op 0xF9 _ rfl nofun fun _ => rfl
  | .ldAAtA16 a16 => .imm16 0xFA .ldAAtA16 a16 rfl fun _ => rfl
  | .ei => .op 0xFB _ rfl nofun fun _ => rfl
  | .illegalFC => .op 0xFC _ rfl nofun fun _ => rfl
  | .illegalFD => .op 0xFD _ rfl nofun fun _ => rfl
  | .cpD8 d8 => .imm8 0xFE .cpD8 d8 rfl fun _ => rfl
  | .rst38 => .op 0xFF _ rfl nofun fun _ => rfl
  | .rlcB => .cb 0x00 _ rfl fun _ => rfl
  | .rlcC => .cb 0x01 _ rfl fun _ => rfl
  | .rlcD => .cb 0x02 _ rfl fun _ => rfl
  | .rlcE => .cb 0x03 _ rfl fun _ => rfl
  | .rlcH => .cb 0x04 _ rfl fun _ => rfl
  | .rlcL => .cb 0x05 _ rfl fun _ => rfl
  | .rlcAtHl => .cb 0x06 _ rfl fun _ => rfl
  | .rlcA => .cb 0x07 _ rfl fun _ => rfl
  | .rrcB => .cb 0x08 _ rfl fun _ => rfl
  | .rrcC => .cb 0x09 _ rfl fun _ => rfl
  | .rrcD => .cb 0x0A _ rfl fun _ => rfl
  | .rrcE => .cb 0x0B _ rfl fun _ => rfl
  | .rrcH => .cb 0x0C _ rfl fun _ => rfl
  | .rrcL => .cb 0x0D _ rfl fun _ => rfl
  | .rrcAtHl => .cb 0x0E _ rfl fun _ => rfl
  | .rrcA => .cb 0x0F _ rfl fun _ => rfl
  | .rlB => .cb 0x10 _ rfl fun _ => rfl
  | .rlC => .cb 0x11 _ rfl fun _ => rfl
  | .rlD => .cb 0x12 _ rfl fun _ => rfl
  | .rlE => .cb 0x13 _ rfl fun _ => rfl
  | .rlH => .cb 0x14 _ rfl fun _ => rfl
  | .rlL => .cb 0x15 _ rfl fun _ => rfl
  | .rlAtHl => .cb 0x16 _ rfl fun _ => rfl
  | .rlA => .cb 0x17 _ rfl fun _ => rfl
  | .rrB => .cb 0x18 _ rfl fun _ => rfl
  | .rrC => .cb 0x19 _ rfl fun _ => rfl
  | .rrD => .cb 0x1A _ rfl fun _ => rfl
  | .rrE => .cb 0x1B _ rfl fun _ => rfl
  | .rrH => .cb 0x1C _ rfl fun _ => rfl
  | .rrL => .cb 0x1D _ rfl fun _ => rfl
  | .rrAtHl => .cb 0x1E _ rfl fun _ => rfl
  | .rrA => .cb 0x1F _ rfl fun _ => rfl
  | .slaB => .cb 0x20 _ rfl fun _ => rfl
  | .slaC => .cb 0x21 _ rfl fun _ => rfl
  | .slaD => .cb 0x22 _ rfl fun _ => rfl
  | .slaE => .cb 0x23 _ rfl fun _ => rfl
  | .slaH => .cb 0x24 _ rfl fun _ => rfl
  | .slaL => .cb 0x25 _ rfl fun _ => rfl
  | .slaAtHl => .cb 0x26 _ rfl fun _ => rfl
  | .slaA => .cb 0x27 _ rfl fun _ => rfl
  | .sraB => .cb 0x28 _ rfl fun _ => rfl
  | .sraC => .cb 0x29 _ rfl fun _ => rfl
  | .sraD => .cb 0x2A _ rfl fun _ => rfl
  | .sraE => .cb 0x2B _ rfl fun _ => rfl
  | .sraH => .cb 0x2C _ rfl fun _ => rfl
  | .sraL => .cb 0x2D _ rfl fun _ => rfl
  | .sraAtHl => .cb 0x2E _ rfl fun _ => rfl
  | .sraA => .cb 0x2F _ rfl fun _ => rfl
  | .swapB => .cb 0x30 _ rfl fun _ => rfl
  | .swapC => .cb 0x31 _ rfl fun _ => rfl
  | .swapD => .cb 0x32 _ rfl fun _ => rfl
  | .swapE => .cb 0x33 _ rfl fun _ => rfl
  | .swapH => .cb 0x34 _ rfl fun _ => rfl
  | .swapL => .cb 0x35 _ rfl fun _ => rfl
  | .swapAtHl => .cb 0x36 _ rfl fun _ => rfl
  | .swapA => .cb 0x37 _ rfl fun _ => rfl
  | .srlB => .cb 0x38 _ rfl fun _ => rfl
  | .srlC => .cb 0x39 _ rfl fun _ => rfl
  | .srlD => .cb 0x3A _ rfl fun _ => rfl
  | .srlE => .cb 0x3B _ rfl fun _ => rfl
  | .srlH => .cb 0x3C _ rfl fun _ => rfl
  | .srlL => .cb 0x3D _ rfl fun _ => rfl
  | .srlAtHl => .cb 0x3E _ rfl fun _ => rfl
  | .srlA => .cb 0x3F _ rfl fun _ => rfl
  | .bit0B => .cb 0x40 _ rfl fun _ => rfl
  | .bit0C => .cb 0x41 _ rfl fun _ => rfl
  | .bit0D => .cb 0x42 _ rfl fun _ => rfl
  | .bit0E => .cb 0x43 _ rfl fun _ => rfl
  | .bit0H => .cb 0x44 _ rfl fun _ => rfl
  | .bit0L => .cb 0x45 _ rfl fun _ => rfl
  | .bit0AtHl => .cb 0x46 _ rfl fun _ => rfl
  | .bit0A => .cb 0x47 _ rfl fun _ => rfl
  | .bit1B => .cb 0x48 _ rfl fun _ => rfl
  | .bit1C => .cb 0x49 _ rfl fun _ => rfl
  | .bit1D => .cb 0x4A _ rfl fun _ => rfl
  | .bit1E => .cb 0x4B _ rfl fun _ => rfl
  | .bit1H => .cb 0x4C _ rfl fun _ => rfl
  | .bit1L => .cb 0x4D _ rfl fun _ => rfl
  | .bit1AtHl => .cb 0x4E _ rfl fun _ => rfl
  | .bit1A => .cb 0x4F _ rfl fun _ => rfl
  | .bit2B => .cb 0x50 _ rfl fun _ => rfl
  | .bit2C => .cb 0x51 _ rfl fun _ => rfl
  | .bit2D => .cb 0x52 _ rfl fun _ => rfl
  | .bit2E => .cb 0x53 _ rfl fun _ => rfl
  | .bit2H => .cb 0x54 _ rfl fun _ => rfl
  | .bit2L => .cb 0x55 _ rfl fun _ => rfl
  | .bit2AtHl => .cb 0x56 _ rfl fun _ => rfl
  | .bit2A => .cb 0x57 _ rfl fun _ => rfl
  | .bit3B => .cb 0x58 _ rfl fun _ => rfl
  | .bit3C => .cb 0x59 _ rfl fun _ => rfl
  | .bit3D => .cb 0x5A _ rfl fun _ => rfl
  | .bit3E => .cb 0x5B _ rfl fun _ => rfl
  | .bit3H => .cb 0x5C _ rfl fun _ => rfl
  | .bit3L => .cb 0x5D _ rfl fun _ => rfl
  | .bit3AtHl => .cb 0x5E _ rfl fun _ => rfl
  | .bit3A => .cb 0x5F _ rfl fun _ => rfl
  | .bit4B => .cb 0x60 _ rfl fun _ => rfl
  | .bit4C => .cb 0x61 _ rfl fun _ => rfl
  | .bit4D => .cb 0x62 _ rfl fun _ => rfl
  | .bit4E => .cb 0x63 _ rfl fun _ => rfl
  | .bit4H => .cb 0x64 _ rfl fun _ => rfl
  | .bit4L => .cb 0x65 _ rfl fun _ => rfl
  | .bit4AtHl => .cb 0x66 _ rfl fun _ => rfl
  | .bit4A => .cb 0x67 _ rfl fun _ => rfl
  | .bit5B => .cb 0x68 _ rfl fun _ => rfl
  | .bit5C => .cb 0x69 _ rfl fun _ => rfl
  | .bit5D => .cb 0x6A _ rfl fun _ => rfl
  | .bit5E => .cb 0x6B _ rfl fun _ => rfl
  | .bit5H => .cb 0x6C _ rfl fun _ => rfl
  | .bit5L => .cb 0x6D _ rfl fun _ => rfl
  | .bit5AtHl => .cb 0x6E _ rfl fun _ => rfl
  | .bit5A => .cb 0x6F _ rfl fun _ => rfl
  | .bit6B => .cb 0x70 _ rfl fun _ => rfl
  | .bit6C => .cb 0x71 _ rfl fun _ => rfl
  | .bit6D => .cb 0x72 _ rfl fun _ => rfl
  | .bit6E => .cb 0x73 _ rfl fun _ => rfl
  | .bit6H => .cb 0x74 _ rfl fun _ => rfl
  | .bit6L => .cb 0x75 _ rfl fun _ => rfl
  | .bit6AtHl => .cb 0x76 _ rfl fun _ => rfl
  | .bit6A => .cb 0x77 _ rfl fun _ => rfl
  | .bit7B => .cb 0x78 _ rfl fun _ => rfl
  | .bit7C => .cb 0x79 _ rfl fun _ => rfl
  | .bit7D => .cb 0x7A _ rfl fun _ => rfl
  | .bit7E => .cb 0x7B _ rfl fun _ => rfl
  | .bit7H => .cb 0x7C _ rfl fun _ => rfl
  | .bit7L => .cb 0x7D _ rfl fun _ => rfl
  | .bit7AtHl => .cb 0x7E _ rfl fun _ => rfl
  | .bit7A => .cb 0x7F _ rfl fun _ => rfl
  | .res0B => .cb 0x80 _ rfl fun _ => rfl
  | .res0C => .cb 0x81 _ rfl fun _ => rfl
  | .res0D => .cb 0x82 _ rfl fun _ => rfl
  | .res0E => .cb 0x83 _ rfl fun _ => rfl
  | .res0H => .cb 0x84 _ rfl fun _ => rfl
  | .res0L => .cb 0x85 _ rfl fun _ => rfl
  | .res0AtHl => .cb 0x86 _ rfl fun _ => rfl
  | .res0A => .cb 0x87 _ rfl fun _ => rfl
  | .res1B => .cb 0x88 _ rfl fun _ => rfl
  | .res1C => .cb 0x89 _ rfl fun _ => rfl
  | .res1D => .cb 0x8A _ rfl fun _ => rfl
  | .res1E => .cb 0x8B _ rfl fun _ => rfl
  | .res1H => .cb 0x8C _ rfl fun _ => rfl
  | .res1L => .cb 0x8D _ rfl fun _ => rfl
  | .res1AtHl => .cb 0x8E _ rfl fun _ => rfl
  | .res1A => .cb 0x8F _ rfl fun _ => rfl
  | .res2B => .cb 0x90 _ rfl fun _ => rfl
  | .res2C => .cb 0x91 _ rfl fun _ => rfl
  | .res2D => .cb 0x92 _ rfl fun _ => rfl
  | .res2E => .cb 0x93 _ rfl fun _ => rfl
  | .res2H => .cb 0x94 _ rfl fun _ => rfl
  | .res2L => .cb 0x95 _ rfl fun _ => rfl
  | .res2AtHl => .cb 0x96 _ rfl fun _ => rfl
  | .res2A => .cb 0x97 _ rfl fun _ => rfl
  | .res3B => .cb 0x98 _ rfl fun _ => rfl
  | .res3C => .cb 0x99 _ rfl fun _ => rfl
  | .res3D => .cb 0x9A _ rfl fun _ => rfl
  | .res3E => .cb 0x9B _ rfl fun _ => rfl
  | .res3H => .cb 0x9C _ rfl fun _ => rfl
  | .res3L => .cb 0x9D _ rfl fun _ => rfl
  | .res3AtHl => .cb 0x9E _ rfl fun _ => rfl
  | .res3A => .cb 0x9F _ rfl fun _ => rfl
  | .res4B => .cb 0xA0 _ rfl fun _ => rfl
  | .res4C => .cb 0xA1 _ rfl fun _ => rfl
  | .res4D => .cb 0xA2 _ rfl fun _ => rfl
  | .res4E => .cb 0xA3 _ rfl fun _ => rfl
  | .res4H => .cb 0xA4 _ rfl fun _ => rfl
  | .res4L => .cb 0xA5 _ rfl fun _ => rfl
  | .res4AtHl => .cb 0xA6 _ rfl fun _ => rfl
  | .res4A => .cb 0xA7 _ rfl fun _ => rfl
  | .res5B => .cb 0xA8 _ rfl fun _ => rfl
  | .res5C => .cb 0xA9 _ rfl fun _ => rfl
  | .res5D => .cb 0xAA _ rfl fun _ => rfl
  | .res5E => .cb 0xAB _ rfl fun _ => rfl
  | .res5H => .cb 0xAC _ rfl fun _ => rfl
  | .res5L => .cb 0xAD _ rfl fun _ => rfl
  | .res5AtHl => .cb 0xAE _ rfl fun _ => rfl
  | .res5A => .cb 0xAF _ rfl fun _ => rfl
  | .res6B => .cb 0xB0 _ rfl fun _ => rfl
  | .res6C => .cb 0xB1 _ rfl fun _ => rfl
  | .res6D => .cb 0xB2 _ rfl fun _ => rfl
  | .res6E => .cb 0xB3 _ rfl fun _ => rfl
  | .res6H => .cb 0xB4 _ rfl fun _ => rfl
  | .res6L => .cb 0xB5 _ rfl fun _ => rfl
  | .res6AtHl => .cb 0xB6 _ rfl fun _ => rfl
  | .res6A => .cb 0xB7 _ rfl fun _ => rfl
  | .res7B => .cb 0xB8 _ rfl fun _ => rfl
  | .res7C => .cb 0xB9 _ rfl fun _ => rfl
  | .res7D => .cb 0xBA _ rfl fun _ => rfl
  | .res7E => .cb 0xBB _ rfl fun _ => rfl
  | .res7H => .cb 0xBC _ rfl fun _ => rfl
  | .res7L => .cb 0xBD _ rfl fun _ => rfl
  | .res7AtHl => .cb 0xBE _ rfl fun _ => rfl
  | .res7A => .cb 0xBF _ rfl fun _ => rfl
  | .set0B => .cb 0xC0 _ rfl fun _ => rfl
  | .set0C => .cb 0xC1 _ rfl fun _ => rfl
  | .set0D => .cb 0xC2 _ rfl fun _ => rfl
  | .set0E => .cb 0xC3 _ rfl fun _ => rfl
  | .set0H => .cb 0xC4 _ rfl fun _ => rfl
  | .set0L => .cb 0xC5 _ rfl fun _ => rfl
  | .set0AtHl => .cb 0xC6 _ rfl fun _ => rfl
  | .set0A => .cb 0xC7 _ rfl fun _ => rfl
  | .set1B => .cb 0xC8 _ rfl fun _ => rfl
  | .set1C => .cb 0xC9 _ rfl fun _ => rfl
  | .set1D => .cb 0xCA _ rfl fun _ => rfl
  | .set1E => .cb 0xCB _ rfl fun _ => rfl
  | .set1H => .cb 0xCC _ rfl fun _ => rfl
  | .set1L => .cb 0xCD _ rfl fun _ => rfl
  | .set1AtHl => .cb 0xCE _ rfl fun _ => rfl
  | .set1A => .cb 0xCF _ rfl fun _ => rfl
  | .set2B => .cb 0xD0 _ rfl fun _ => rfl
  | .set2C => .cb 0xD1 _ rfl fun _ => rfl
  | .set2D => .cb 0xD2 _ rfl fun _ => rfl
  | .set2E => .cb 0xD3 _ rfl fun _ => rfl
  | .set2H => .cb 0xD4 _ rfl fun _ => rfl
  | .set2L => .cb 0xD5 _ rfl fun _ => rfl
  | .set2AtHl => .cb 0xD6 _ rfl fun _ => rfl
  | .set2A => .cb 0xD7 _ rfl fun _ => rfl
  | .set3B => .cb 0xD8 _ rfl fun _ => rfl
  | .set3C => .cb 0xD9 _ rfl fun _ => rfl
  | .set3D => .cb 0xDA _ rfl fun _ => rfl
  | .set3E => .cb 0xDB _ rfl fun _ => rfl
  | .set3H => .cb 0xDC _ rfl fun _ => rfl
  | .set3L => .cb 0xDD _ rfl fun _ => rfl
  | .set3AtHl => .cb 0xDE _ rfl fun _ => rfl
  | .set3A => .cb 0xDF _ rfl fun _ => rfl
  | .set4B => .cb 0xE0 _ rfl fun _ => rfl
  | .set4C => .cb 0xE1 _ rfl fun _ => rfl
  | .set4D => .cb 0xE2 _ rfl fun _ => rfl
  | .set4E => .cb 0xE3 _ rfl fun _ => rfl
  | .set4H => .cb 0xE4 _ rfl fun _ => rfl
  | .set4L => .cb 0xE5 _ rfl fun _ => rfl
  | .set4AtHl => .cb 0xE6 _ rfl fun _ => rfl
  | .set4A => .cb 0xE7 _ rfl fun _ => rfl
  | .set5B => .cb 0xE8 _ rfl fun _ => rfl
  | .set5C => .cb 0xE9 _ rfl fun _ => rfl
  | .set5D => .cb 0xEA _ rfl fun _ => rfl
  | .set5E => .cb 0xEB _ rfl fun _ => rfl
  | .set5H => .cb 0xEC _ rfl fun _ => rfl
  | .set5L => .cb 0xED _ rfl fun _ => rfl
  | .set5AtHl => .cb 0xEE _ rfl fun _ => rfl
  | .set5A => .cb 0xEF _ rfl fun _ => rfl
  | .set6B => .cb 0xF0 _ rfl fun _ => rfl
  | .set6C => .cb 0xF1 _ rfl fun _ => rfl
  | .set6D => .cb 0xF2 _ rfl fun _ => rfl
  | .set6E => .cb 0xF3 _ rfl fun _ => rfl
  | .set6H => .cb 0xF4 _ rfl fun _ => rfl
  | .set6L => .cb 0xF5 _ rfl fun _ => rfl
  | .set6AtHl => .cb 0xF6 _ rfl fun _ => rfl
  | .set6A => .cb 0xF7 _ rfl fun _ => rfl
  | .set7B => .cb 0xF8 _ rfl fun _ => rfl
  | .set7C => .cb 0xF9 _ rfl fun _ => rfl
  | .set7D => .cb 0xFA _ rfl fun _ => rfl
  | .set7E => .cb 0xFB _ rfl fun _ => rfl
  | .set7H => .cb 0xFC _ rfl fun _ => rfl
  | .set7L => .cb 0xFD _ rfl fun _ => rfl
  | .set7AtHl => .cb 0xFE _ rfl fun _ => rfl
  | .set7A => .cb 0xFF _ rfl fun _ => rfl

theorem decode_op {b : Byte} {i : Instr} (sl : StopLength) (bs : List Byte) (h : entryOf b = .op i) (hs : i ≠ .stop) :
    decode sl (b :: bs) = .ok (i, bs) := by
  unfold decode
  dsimp only
  rw [h]
  split <;> simp_all

theorem decode_imm8 {b : Byte} {f : Byte → Instr} (sl : StopLength) (v : Byte) (bs : List Byte) (h : entryOf b = .imm8 f) :
    decode sl (b :: v :: bs) = .ok (f v, bs) := by
  unfold decode
  dsimp only
  rw [h]

theorem decode_imm16 {b : Byte} {f : Word → Instr} (sl : StopLength) (lo hi : Byte) (bs : List Byte) (h : entryOf b = .imm16 f) :
    decode sl (b :: lo :: hi :: bs) = .ok (f (joinBytes hi lo), bs) := by
  unfold decode
  dsimp only
  rw [h]

theorem decode_cb (sl : StopLength) (b : Byte) (bs : List Byte) : decode sl (0xCB :: b :: bs) = .ok (cbEntryOf b, bs) := rfl

theorem decode_stop (sl : StopLength) (b : Byte) (bs : List Byte) :
    decode sl (0x10 :: b :: bs) = .ok (.stop, match sl with | .one => b :: bs | .two => bs) := by
  cases sl <;> rfl

end Sys2Proof
end

