-- ==== Sys2Proof/Laws/Cost.lean ====
section
/-! SUPPORT. Every instruction costs at least one cycle where the parameters are valid (00_scope.md R22 to R24). -/

namespace Sys2Proof.Machine

theorem condCost_pos (cfg : Config) {n t : Nat} (hn : 0 < n) (ht : 0 < t) : 0 < condCost cfg n t := by
  unfold condCost; split
  · exact hn
  · exact ht

theorem cbCost_pos (op2 : Byte) : 0 < cbCost op2 := by
  unfold cbCost; split_ifs <;> decide

/-- A cell with positive counts. -/
def CostCell.positive : CostCell → Bool
  | .n c => decide (0 < c)
  | .cond a b => decide (0 < a) && decide (0 < b)
  | .pfx => true
  | .ill => true

theorem costCell_positive (op : Byte) : (costCell op).positive = true := by
  revert op; decide

theorem costCell_pfx (op : Byte) : costCell op = .pfx → op = 0xCB := by
  revert op; decide

/-- A cost is positive where the bytes hold an instruction (R968). -/
theorem bytesCost_pos (cfg : Config) (op : Byte) (rest : List Byte) (h : 0 < cfg.illegalOpcodeCycles) (hr : op = 0xCB → rest ≠ []) :
    0 < bytesCost cfg (op :: rest) := by
  have hp := costCell_positive op
  unfold bytesCost
  cases hc : costCell op with
  | n c => simp only [hc]; rw [hc] at hp; simpa [CostCell.positive] using hp
  | cond a b =>
    simp only [hc]
    rw [hc] at hp
    simp [CostCell.positive] at hp
    exact condCost_pos cfg hp.1 hp.2
  | ill => simp only [hc]; exact h
  | pfx =>
    have hne := hr (costCell_pfx op hc)
    simp only [hc]
    cases rest with
    | nil => exact absurd rfl hne
    | cons b bs => exact cbCost_pos b

/-- Every instruction but the bare prefix costs at least one cycle. -/
theorem instrCost_pos (cfg : Config) (i : Instr) (hw : i.wellFormed = true) (h : 0 < cfg.illegalOpcodeCycles) : 0 < instrCost cfg i := by
  unfold instrCost
  cases encodedFrom i hw with
  | op b i entry notStop bytes =>
    rw [bytes]
    exact bytesCost_pos cfg b [] h fun hb => by subst hb; exact absurd entry (by simp [entryOf, entryOfFields, entry3])
  | imm8 b f v entry bytes => rw [bytes]; exact bytesCost_pos cfg b _ h fun _ => by simp
  | imm16 b f v entry bytes => rw [bytes]; exact bytesCost_pos cfg b _ h fun _ => by simp
  | cb b i entry bytes => rw [bytes]; exact bytesCost_pos cfg 0xCB _ h fun _ => by simp
  | stop => cases cfg.stopLength <;> exact Nat.zero_lt_succ 3

end Sys2Proof.Machine
end

