-- ==== Sys2Proof/Laws/Families.lean ====
section
/-! SUPPORT. The meaning of each instruction family of 30_encoding.md R315 and R318, said once over the family's fields, and the
families as a case analysis over all 512 constructors. -/

namespace Sys2Proof.Machine

theorem exec_ldReg (dst src : R8) (s : State) : exec (Instr.ldReg dst src) s = .next (load (.reg dst) (.loc (.reg src)) s) := by
  cases dst <;> cases src <;> rfl

theorem exec_ldRegImm (dst : R8) (d8 : Byte) (s : State) : exec (Instr.ldRegImm dst d8) s = .next (load (.reg dst) (.imm d8) s) := by
  cases dst <;> rfl

theorem exec_ldRegAtHl (dst : R8) (s : State) : exec (Instr.ldRegAtHl dst) s = .next (load (.reg dst) (.loc .atHl) s) := by
  cases dst <;> rfl

theorem exec_ldAtHlReg (src : R8) (s : State) : exec (Instr.ldAtHlReg src) s = .next (load .atHl (.loc (.reg src)) s) := by
  cases src <;> rfl

theorem exec_incLoc (x : Loc8) (s : State) : exec (Instr.incLoc x) s = .next (incLoc x s) := by
  rcases x with r | _
  · cases r <;> rfl
  · rfl

theorem exec_decLoc (x : Loc8) (s : State) : exec (Instr.decLoc x) s = .next (decLoc x s) := by
  rcases x with r | _
  · cases r <;> rfl
  · rfl

theorem exec_aluLoc (op : AluOp) (x : Loc8) (s : State) : exec (Instr.aluLoc op x) s = .next (aluOn op (.loc x) s) := by
  rcases x with r | _
  · cases op <;> cases r <;> rfl
  · cases op <;> rfl

theorem exec_aluImm (op : AluOp) (d8 : Byte) (s : State) : exec (Instr.aluImm op d8) s = .next (aluOn op (.imm d8) s) := by
  cases op <;> rfl

theorem exec_ldPair (p : R16) (d16 : Word) (s : State) : exec (Instr.ldPair p d16) s = .next (loadPair p d16 s) := by
  cases p <;> rfl

theorem exec_incPair (p : R16) (s : State) : exec (Instr.incPair p) s = .next (incPair p s) := by
  cases p <;> rfl

theorem exec_decPair (p : R16) (s : State) : exec (Instr.decPair p) s = .next (decPair p s) := by
  cases p <;> rfl

theorem exec_addHl (p : R16) (s : State) : exec (Instr.addHl p) s = .next (addHl p s) := by
  cases p <;> rfl

theorem exec_push (p : R16Stack) (s : State) : exec (Instr.push p) s = .next (pushPair p s) := by
  cases p <;> rfl

theorem exec_pop (p : R16Stack) (s : State) : exec (Instr.pop p) s = .next (popPair p s) := by
  cases p <;> rfl

theorem exec_jpCond (cc : Cond) (a16 : Word) (s : State) : exec (Instr.jpCond cc a16) s = .next (jumpIf cc a16 s) := by
  cases cc <;> rfl

theorem exec_jrCond (cc : Cond) (e8 : Byte) (s : State) : exec (Instr.jrCond cc e8) s = .next (jumpRelIf cc e8 s) := by
  cases cc <;> rfl

theorem exec_callCond (cc : Cond) (a16 : Word) (s : State) : exec (Instr.callCond cc a16) s = .next (callIf cc a16 s) := by
  cases cc <;> rfl

theorem exec_retCond (cc : Cond) (s : State) : exec (Instr.retCond cc) s = .next (retIf cc s) := by
  cases cc <;> rfl

theorem exec_rst (y : Fin 8) (s : State) : exec (Instr.rst y) s = .next (call (BitVec.ofNat 16 (8 * y.val)) s) := by
  fin_cases y <;> rfl

theorem exec_rot (op : RotOp) (x : Loc8) (s : State) : exec (Instr.rot op x) s = .next (rotateLoc op x s) := by
  rcases x with r | _
  · cases op <;> cases r <;> rfl
  · cases op <;> rfl

theorem exec_bit (b : Fin 8) (x : Loc8) (s : State) : exec (Instr.bit b x) s = .next (testBit b x s) := by
  rcases x with r | _
  · fin_cases b <;> cases r <;> rfl
  · fin_cases b <;> rfl

theorem exec_res (b : Fin 8) (x : Loc8) (s : State) : exec (Instr.res b x) s = .next (resetBit b x s) := by
  rcases x with r | _
  · fin_cases b <;> cases r <;> rfl
  · fin_cases b <;> rfl

theorem exec_set (b : Fin 8) (x : Loc8) (s : State) : exec (Instr.set b x) s = .next (setBitOf b x s) := by
  rcases x with r | _
  · fin_cases b <;> cases r <;> rfl
  · fin_cases b <;> rfl

theorem exec_illegal (u : Unrecognized) (s : State) : exec (Instr.illegal u) s = .next (unrecognized s) := by
  cases u <;> rfl

/-- An instruction as a member of its family. -/
inductive OfFamily : Instr → Prop where
  | ldReg (dst src : R8) : OfFamily (Instr.ldReg dst src)
  | ldRegImm (dst : R8) (d8 : Byte) : OfFamily (Instr.ldRegImm dst d8)
  | ldRegAtHl (dst : R8) : OfFamily (Instr.ldRegAtHl dst)
  | ldAtHlReg (src : R8) : OfFamily (Instr.ldAtHlReg src)
  | incLoc (x : Loc8) : OfFamily (Instr.incLoc x)
  | decLoc (x : Loc8) : OfFamily (Instr.decLoc x)
  | aluLoc (op : AluOp) (x : Loc8) : OfFamily (Instr.aluLoc op x)
  | aluImm (op : AluOp) (d8 : Byte) : OfFamily (Instr.aluImm op d8)
  | ldPair (p : R16) (d16 : Word) : OfFamily (Instr.ldPair p d16)
  | incPair (p : R16) : OfFamily (Instr.incPair p)
  | decPair (p : R16) : OfFamily (Instr.decPair p)
  | addHl (p : R16) : OfFamily (Instr.addHl p)
  | push (p : R16Stack) : OfFamily (Instr.push p)
  | pop (p : R16Stack) : OfFamily (Instr.pop p)
  | jpCond (cc : Cond) (a16 : Word) : OfFamily (Instr.jpCond cc a16)
  | jrCond (cc : Cond) (e8 : Byte) : OfFamily (Instr.jrCond cc e8)
  | callCond (cc : Cond) (a16 : Word) : OfFamily (Instr.callCond cc a16)
  | retCond (cc : Cond) : OfFamily (Instr.retCond cc)
  | rst (y : Fin 8) : OfFamily (Instr.rst y)
  | rot (op : RotOp) (x : Loc8) : OfFamily (Instr.rot op x)
  | bit (b : Fin 8) (x : Loc8) : OfFamily (Instr.bit b x)
  | res (b : Fin 8) (x : Loc8) : OfFamily (Instr.res b x)
  | set (b : Fin 8) (x : Loc8) : OfFamily (Instr.set b x)
  | illegal (u : Unrecognized) : OfFamily (Instr.illegal u)
  | nop : OfFamily (.nop)
  | ldAtBcA : OfFamily (.ldAtBcA)
  | rlca : OfFamily (.rlca)
  | ldAtA16Sp (a16 : Word) : OfFamily (.ldAtA16Sp a16)
  | ldAAtBc : OfFamily (.ldAAtBc)
  | rrca : OfFamily (.rrca)
  | stop : OfFamily (.stop)
  | ldAtDeA : OfFamily (.ldAtDeA)
  | rla : OfFamily (.rla)
  | jrE8 (e8 : Byte) : OfFamily (.jrE8 e8)
  | ldAAtDe : OfFamily (.ldAAtDe)
  | rra : OfFamily (.rra)
  | ldAtHliA : OfFamily (.ldAtHliA)
  | daa : OfFamily (.daa)
  | ldAAtHli : OfFamily (.ldAAtHli)
  | cpl : OfFamily (.cpl)
  | ldAtHldA : OfFamily (.ldAtHldA)
  | ldAtHlD8 (d8 : Byte) : OfFamily (.ldAtHlD8 d8)
  | scf : OfFamily (.scf)
  | ldAAtHld : OfFamily (.ldAAtHld)
  | ccf : OfFamily (.ccf)
  | halt : OfFamily (.halt)
  | jpA16 (a16 : Word) : OfFamily (.jpA16 a16)
  | ret : OfFamily (.ret)
  | prefixCb : OfFamily (.prefixCb)
  | callA16 (a16 : Word) : OfFamily (.callA16 a16)
  | reti : OfFamily (.reti)
  | ldhAtA8A (a8 : Byte) : OfFamily (.ldhAtA8A a8)
  | ldAtCA : OfFamily (.ldAtCA)
  | addSpE8 (e8 : Byte) : OfFamily (.addSpE8 e8)
  | jpHl : OfFamily (.jpHl)
  | ldAtA16A (a16 : Word) : OfFamily (.ldAtA16A a16)
  | ldhAAtA8 (a8 : Byte) : OfFamily (.ldhAAtA8 a8)
  | ldAAtC : OfFamily (.ldAAtC)
  | di : OfFamily (.di)
  | ldHlSpE8 (e8 : Byte) : OfFamily (.ldHlSpE8 e8)
  | ldSpHl : OfFamily (.ldSpHl)
  | ldAAtA16 (a16 : Word) : OfFamily (.ldAAtA16 a16)
  | ei : OfFamily (.ei)

/-- Every instruction is a member of a family. -/
theorem ofFamily (i : Instr) : OfFamily i :=
  match i with
  | .nop => .nop
  | .ldBcD16 d16 => .ldPair .bc d16
  | .ldAtBcA => .ldAtBcA
  | .incBc => .incPair .bc
  | .incB => .incLoc (.reg .b)
  | .decB => .decLoc (.reg .b)
  | .ldBD8 d8 => .ldRegImm .b d8
  | .rlca => .rlca
  | .ldAtA16Sp a16 => .ldAtA16Sp a16
  | .addHlBc => .addHl .bc
  | .ldAAtBc => .ldAAtBc
  | .decBc => .decPair .bc
  | .incC => .incLoc (.reg .c)
  | .decC => .decLoc (.reg .c)
  | .ldCD8 d8 => .ldRegImm .c d8
  | .rrca => .rrca
  | .stop => .stop
  | .ldDeD16 d16 => .ldPair .de d16
  | .ldAtDeA => .ldAtDeA
  | .incDe => .incPair .de
  | .incD => .incLoc (.reg .d)
  | .decD => .decLoc (.reg .d)
  | .ldDD8 d8 => .ldRegImm .d d8
  | .rla => .rla
  | .jrE8 e8 => .jrE8 e8
  | .addHlDe => .addHl .de
  | .ldAAtDe => .ldAAtDe
  | .decDe => .decPair .de
  | .incE => .incLoc (.reg .e)
  | .decE => .decLoc (.reg .e)
  | .ldED8 d8 => .ldRegImm .e d8
  | .rra => .rra
  | .jrNzE8 e8 => .jrCond .nz e8
  | .ldHlD16 d16 => .ldPair .hl d16
  | .ldAtHliA => .ldAtHliA
  | .incHl => .incPair .hl
  | .incH => .incLoc (.reg .h)
  | .decH => .decLoc (.reg .h)
  | .ldHD8 d8 => .ldRegImm .h d8
  | .daa => .daa
  | .jrZE8 e8 => .jrCond .z e8
  | .addHlHl => .addHl .hl
  | .ldAAtHli => .ldAAtHli
  | .decHl => .decPair .hl
  | .incL => .incLoc (.reg .l)
  | .decL => .decLoc (.reg .l)
  | .ldLD8 d8 => .ldRegImm .l d8
  | .cpl => .cpl
  | .jrNcE8 e8 => .jrCond .nc e8
  | .ldSpD16 d16 => .ldPair .sp d16
  | .ldAtHldA => .ldAtHldA
  | .incSp => .incPair .sp
  | .incAtHl => .incLoc .atHl
  | .decAtHl => .decLoc .atHl
  | .ldAtHlD8 d8 => .ldAtHlD8 d8
  | .scf => .scf
  | .jrCE8 e8 => .jrCond .c e8
  | .addHlSp => .addHl .sp
  | .ldAAtHld => .ldAAtHld
  | .decSp => .decPair .sp
  | .incA => .incLoc (.reg .a)
  | .decA => .decLoc (.reg .a)
  | .ldAD8 d8 => .ldRegImm .a d8
  | .ccf => .ccf
  | .ldBB => .ldReg .b .b
  | .ldBC => .ldReg .b .c
  | .ldBD => .ldReg .b .d
  | .ldBE => .ldReg .b .e
  | .ldBH => .ldReg .b .h
  | .ldBL => .ldReg .b .l
  | .ldBAtHl => .ldRegAtHl .b
  | .ldBA => .ldReg .b .a
  | .ldCB => .ldReg .c .b
  | .ldCC => .ldReg .c .c
  | .ldCD => .ldReg .c .d
  | .ldCE => .ldReg .c .e
  | .ldCH => .ldReg .c .h
  | .ldCL => .ldReg .c .l
  | .ldCAtHl => .ldRegAtHl .c
  | .ldCA => .ldReg .c .a
  | .ldDB => .ldReg .d .b
  | .ldDC => .ldReg .d .c
  | .ldDD => .ldReg .d .d
  | .ldDE => .ldReg .d .e
  | .ldDH => .ldReg .d .h
  | .ldDL => .ldReg .d .l
  | .ldDAtHl => .ldRegAtHl .d
  | .ldDA => .ldReg .d .a
  | .ldEB => .ldReg .e .b
  | .ldEC => .ldReg .e .c
  | .ldED => .ldReg .e .d
  | .ldEE => .ldReg .e .e
  | .ldEH => .ldReg .e .h
  | .ldEL => .ldReg .e .l
  | .ldEAtHl => .ldRegAtHl .e
  | .ldEA => .ldReg .e .a
  | .ldHB => .ldReg .h .b
  | .ldHC => .ldReg .h .c
  | .ldHD => .ldReg .h .d
  | .ldHE => .ldReg .h .e
  | .ldHH => .ldReg .h .h
  | .ldHL => .ldReg .h .l
  | .ldHAtHl => .ldRegAtHl .h
  | .ldHA => .ldReg .h .a
  | .ldLB => .ldReg .l .b
  | .ldLC => .ldReg .l .c
  | .ldLD => .ldReg .l .d
  | .ldLE => .ldReg .l .e
  | .ldLH => .ldReg .l .h
  | .ldLL => .ldReg .l .l
  | .ldLAtHl => .ldRegAtHl .l
  | .ldLA => .ldReg .l .a
  | .ldAtHlB => .ldAtHlReg .b
  | .ldAtHlC => .ldAtHlReg .c
  | .ldAtHlD => .ldAtHlReg .d
  | .ldAtHlE => .ldAtHlReg .e
  | .ldAtHlH => .ldAtHlReg .h
  | .ldAtHlL => .ldAtHlReg .l
  | .halt => .halt
  | .ldAtHlA => .ldAtHlReg .a
  | .ldAB => .ldReg .a .b
  | .ldAC => .ldReg .a .c
  | .ldAD => .ldReg .a .d
  | .ldAE => .ldReg .a .e
  | .ldAH => .ldReg .a .h
  | .ldAL => .ldReg .a .l
  | .ldAAtHl => .ldRegAtHl .a
  | .ldAA => .ldReg .a .a
  | .addAB => .aluLoc .add (.reg .b)
  | .addAC => .aluLoc .add (.reg .c)
  | .addAD => .aluLoc .add (.reg .d)
  | .addAE => .aluLoc .add (.reg .e)
  | .addAH => .aluLoc .add (.reg .h)
  | .addAL => .aluLoc .add (.reg .l)
  | .addAAtHl => .aluLoc .add .atHl
  | .addAA => .aluLoc .add (.reg .a)
  | .adcAB => .aluLoc .adc (.reg .b)
  | .adcAC => .aluLoc .adc (.reg .c)
  | .adcAD => .aluLoc .adc (.reg .d)
  | .adcAE => .aluLoc .adc (.reg .e)
  | .adcAH => .aluLoc .adc (.reg .h)
  | .adcAL => .aluLoc .adc (.reg .l)
  | .adcAAtHl => .aluLoc .adc .atHl
  | .adcAA => .aluLoc .adc (.reg .a)
  | .subB => .aluLoc .sub (.reg .b)
  | .subC => .aluLoc .sub (.reg .c)
  | .subD => .aluLoc .sub (.reg .d)
  | .subE => .aluLoc .sub (.reg .e)
  | .subH => .aluLoc .sub (.reg .h)
  | .subL => .aluLoc .sub (.reg .l)
  | .subAtHl => .aluLoc .sub .atHl
  | .subA => .aluLoc .sub (.reg .a)
  | .sbcAB => .aluLoc .sbc (.reg .b)
  | .sbcAC => .aluLoc .sbc (.reg .c)
  | .sbcAD => .aluLoc .sbc (.reg .d)
  | .sbcAE => .aluLoc .sbc (.reg .e)
  | .sbcAH => .aluLoc .sbc (.reg .h)
  | .sbcAL => .aluLoc .sbc (.reg .l)
  | .sbcAAtHl => .aluLoc .sbc .atHl
  | .sbcAA => .aluLoc .sbc (.reg .a)
  | .andB => .aluLoc .and (.reg .b)
  | .andC => .aluLoc .and (.reg .c)
  | .andD => .aluLoc .and (.reg .d)
  | .andE => .aluLoc .and (.reg .e)
  | .andH => .aluLoc .and (.reg .h)
  | .andL => .aluLoc .and (.reg .l)
  | .andAtHl => .aluLoc .and .atHl
  | .andA => .aluLoc .and (.reg .a)
  | .xorB => .aluLoc .xor (.reg .b)
  | .xorC => .aluLoc .xor (.reg .c)
  | .xorD => .aluLoc .xor (.reg .d)
  | .xorE => .aluLoc .xor (.reg .e)
  | .xorH => .aluLoc .xor (.reg .h)
  | .xorL => .aluLoc .xor (.reg .l)
  | .xorAtHl => .aluLoc .xor .atHl
  | .xorA => .aluLoc .xor (.reg .a)
  | .orB => .aluLoc .or (.reg .b)
  | .orC => .aluLoc .or (.reg .c)
  | .orD => .aluLoc .or (.reg .d)
  | .orE => .aluLoc .or (.reg .e)
  | .orH => .aluLoc .or (.reg .h)
  | .orL => .aluLoc .or (.reg .l)
  | .orAtHl => .aluLoc .or .atHl
  | .orA => .aluLoc .or (.reg .a)
  | .cpB => .aluLoc .cp (.reg .b)
  | .cpC => .aluLoc .cp (.reg .c)
  | .cpD => .aluLoc .cp (.reg .d)
  | .cpE => .aluLoc .cp (.reg .e)
  | .cpH => .aluLoc .cp (.reg .h)
  | .cpL => .aluLoc .cp (.reg .l)
  | .cpAtHl => .aluLoc .cp .atHl
  | .cpA => .aluLoc .cp (.reg .a)
  | .retNz => .retCond .nz
  | .popBc => .pop .bc
  | .jpNzA16 a16 => .jpCond .nz a16
  | .jpA16 a16 => .jpA16 a16
  | .callNzA16 a16 => .callCond .nz a16
  | .pushBc => .push .bc
  | .addAD8 d8 => .aluImm .add d8
  | .rst00 => .rst 0
  | .retZ => .retCond .z
  | .ret => .ret
  | .jpZA16 a16 => .jpCond .z a16
  | .prefixCb => .prefixCb
  | .callZA16 a16 => .callCond .z a16
  | .callA16 a16 => .callA16 a16
  | .adcAD8 d8 => .aluImm .adc d8
  | .rst08 => .rst 1
  | .retNc => .retCond .nc
  | .popDe => .pop .de
  | .jpNcA16 a16 => .jpCond .nc a16
  | .illegalD3 => .illegal .xD3
  | .callNcA16 a16 => .callCond .nc a16
  | .pushDe => .push .de
  | .subD8 d8 => .aluImm .sub d8
  | .rst10 => .rst 2
  | .retC => .retCond .c
  | .reti => .reti
  | .jpCA16 a16 => .jpCond .c a16
  | .illegalDB => .illegal .xDB
  | .callCA16 a16 => .callCond .c a16
  | .illegalDD => .illegal .xDD
  | .sbcAD8 d8 => .aluImm .sbc d8
  | .rst18 => .rst 3
  | .ldhAtA8A a8 => .ldhAtA8A a8
  | .popHl => .pop .hl
  | .ldAtCA => .ldAtCA
  | .illegalE3 => .illegal .xE3
  | .illegalE4 => .illegal .xE4
  | .pushHl => .push .hl
  | .andD8 d8 => .aluImm .and d8
  | .rst20 => .rst 4
  | .addSpE8 e8 => .addSpE8 e8
  | .jpHl => .jpHl
  | .ldAtA16A a16 => .ldAtA16A a16
  | .illegalEB => .illegal .xEB
  | .illegalEC => .illegal .xEC
  | .illegalED => .illegal .xED
  | .xorD8 d8 => .aluImm .xor d8
  | .rst28 => .rst 5
  | .ldhAAtA8 a8 => .ldhAAtA8 a8
  | .popAf => .pop .af
  | .ldAAtC => .ldAAtC
  | .di => .di
  | .illegalF4 => .illegal .xF4
  | .pushAf => .push .af
  | .orD8 d8 => .aluImm .or d8
  | .rst30 => .rst 6
  | .ldHlSpE8 e8 => .ldHlSpE8 e8
  | .ldSpHl => .ldSpHl
  | .ldAAtA16 a16 => .ldAAtA16 a16
  | .ei => .ei
  | .illegalFC => .illegal .xFC
  | .illegalFD => .illegal .xFD
  | .cpD8 d8 => .aluImm .cp d8
  | .rst38 => .rst 7
  | .rlcB => .rot .rlc (.reg .b)
  | .rlcC => .rot .rlc (.reg .c)
  | .rlcD => .rot .rlc (.reg .d)
  | .rlcE => .rot .rlc (.reg .e)
  | .rlcH => .rot .rlc (.reg .h)
  | .rlcL => .rot .rlc (.reg .l)
  | .rlcAtHl => .rot .rlc .atHl
  | .rlcA => .rot .rlc (.reg .a)
  | .rrcB => .rot .rrc (.reg .b)
  | .rrcC => .rot .rrc (.reg .c)
  | .rrcD => .rot .rrc (.reg .d)
  | .rrcE => .rot .rrc (.reg .e)
  | .rrcH => .rot .rrc (.reg .h)
  | .rrcL => .rot .rrc (.reg .l)
  | .rrcAtHl => .rot .rrc .atHl
  | .rrcA => .rot .rrc (.reg .a)
  | .rlB => .rot .rl (.reg .b)
  | .rlC => .rot .rl (.reg .c)
  | .rlD => .rot .rl (.reg .d)
  | .rlE => .rot .rl (.reg .e)
  | .rlH => .rot .rl (.reg .h)
  | .rlL => .rot .rl (.reg .l)
  | .rlAtHl => .rot .rl .atHl
  | .rlA => .rot .rl (.reg .a)
  | .rrB => .rot .rr (.reg .b)
  | .rrC => .rot .rr (.reg .c)
  | .rrD => .rot .rr (.reg .d)
  | .rrE => .rot .rr (.reg .e)
  | .rrH => .rot .rr (.reg .h)
  | .rrL => .rot .rr (.reg .l)
  | .rrAtHl => .rot .rr .atHl
  | .rrA => .rot .rr (.reg .a)
  | .slaB => .rot .sla (.reg .b)
  | .slaC => .rot .sla (.reg .c)
  | .slaD => .rot .sla (.reg .d)
  | .slaE => .rot .sla (.reg .e)
  | .slaH => .rot .sla (.reg .h)
  | .slaL => .rot .sla (.reg .l)
  | .slaAtHl => .rot .sla .atHl
  | .slaA => .rot .sla (.reg .a)
  | .sraB => .rot .sra (.reg .b)
  | .sraC => .rot .sra (.reg .c)
  | .sraD => .rot .sra (.reg .d)
  | .sraE => .rot .sra (.reg .e)
  | .sraH => .rot .sra (.reg .h)
  | .sraL => .rot .sra (.reg .l)
  | .sraAtHl => .rot .sra .atHl
  | .sraA => .rot .sra (.reg .a)
  | .swapB => .rot .swap (.reg .b)
  | .swapC => .rot .swap (.reg .c)
  | .swapD => .rot .swap (.reg .d)
  | .swapE => .rot .swap (.reg .e)
  | .swapH => .rot .swap (.reg .h)
  | .swapL => .rot .swap (.reg .l)
  | .swapAtHl => .rot .swap .atHl
  | .swapA => .rot .swap (.reg .a)
  | .srlB => .rot .srl (.reg .b)
  | .srlC => .rot .srl (.reg .c)
  | .srlD => .rot .srl (.reg .d)
  | .srlE => .rot .srl (.reg .e)
  | .srlH => .rot .srl (.reg .h)
  | .srlL => .rot .srl (.reg .l)
  | .srlAtHl => .rot .srl .atHl
  | .srlA => .rot .srl (.reg .a)
  | .bit0B => .bit 0 (.reg .b)
  | .bit0C => .bit 0 (.reg .c)
  | .bit0D => .bit 0 (.reg .d)
  | .bit0E => .bit 0 (.reg .e)
  | .bit0H => .bit 0 (.reg .h)
  | .bit0L => .bit 0 (.reg .l)
  | .bit0AtHl => .bit 0 .atHl
  | .bit0A => .bit 0 (.reg .a)
  | .bit1B => .bit 1 (.reg .b)
  | .bit1C => .bit 1 (.reg .c)
  | .bit1D => .bit 1 (.reg .d)
  | .bit1E => .bit 1 (.reg .e)
  | .bit1H => .bit 1 (.reg .h)
  | .bit1L => .bit 1 (.reg .l)
  | .bit1AtHl => .bit 1 .atHl
  | .bit1A => .bit 1 (.reg .a)
  | .bit2B => .bit 2 (.reg .b)
  | .bit2C => .bit 2 (.reg .c)
  | .bit2D => .bit 2 (.reg .d)
  | .bit2E => .bit 2 (.reg .e)
  | .bit2H => .bit 2 (.reg .h)
  | .bit2L => .bit 2 (.reg .l)
  | .bit2AtHl => .bit 2 .atHl
  | .bit2A => .bit 2 (.reg .a)
  | .bit3B => .bit 3 (.reg .b)
  | .bit3C => .bit 3 (.reg .c)
  | .bit3D => .bit 3 (.reg .d)
  | .bit3E => .bit 3 (.reg .e)
  | .bit3H => .bit 3 (.reg .h)
  | .bit3L => .bit 3 (.reg .l)
  | .bit3AtHl => .bit 3 .atHl
  | .bit3A => .bit 3 (.reg .a)
  | .bit4B => .bit 4 (.reg .b)
  | .bit4C => .bit 4 (.reg .c)
  | .bit4D => .bit 4 (.reg .d)
  | .bit4E => .bit 4 (.reg .e)
  | .bit4H => .bit 4 (.reg .h)
  | .bit4L => .bit 4 (.reg .l)
  | .bit4AtHl => .bit 4 .atHl
  | .bit4A => .bit 4 (.reg .a)
  | .bit5B => .bit 5 (.reg .b)
  | .bit5C => .bit 5 (.reg .c)
  | .bit5D => .bit 5 (.reg .d)
  | .bit5E => .bit 5 (.reg .e)
  | .bit5H => .bit 5 (.reg .h)
  | .bit5L => .bit 5 (.reg .l)
  | .bit5AtHl => .bit 5 .atHl
  | .bit5A => .bit 5 (.reg .a)
  | .bit6B => .bit 6 (.reg .b)
  | .bit6C => .bit 6 (.reg .c)
  | .bit6D => .bit 6 (.reg .d)
  | .bit6E => .bit 6 (.reg .e)
  | .bit6H => .bit 6 (.reg .h)
  | .bit6L => .bit 6 (.reg .l)
  | .bit6AtHl => .bit 6 .atHl
  | .bit6A => .bit 6 (.reg .a)
  | .bit7B => .bit 7 (.reg .b)
  | .bit7C => .bit 7 (.reg .c)
  | .bit7D => .bit 7 (.reg .d)
  | .bit7E => .bit 7 (.reg .e)
  | .bit7H => .bit 7 (.reg .h)
  | .bit7L => .bit 7 (.reg .l)
  | .bit7AtHl => .bit 7 .atHl
  | .bit7A => .bit 7 (.reg .a)
  | .res0B => .res 0 (.reg .b)
  | .res0C => .res 0 (.reg .c)
  | .res0D => .res 0 (.reg .d)
  | .res0E => .res 0 (.reg .e)
  | .res0H => .res 0 (.reg .h)
  | .res0L => .res 0 (.reg .l)
  | .res0AtHl => .res 0 .atHl
  | .res0A => .res 0 (.reg .a)
  | .res1B => .res 1 (.reg .b)
  | .res1C => .res 1 (.reg .c)
  | .res1D => .res 1 (.reg .d)
  | .res1E => .res 1 (.reg .e)
  | .res1H => .res 1 (.reg .h)
  | .res1L => .res 1 (.reg .l)
  | .res1AtHl => .res 1 .atHl
  | .res1A => .res 1 (.reg .a)
  | .res2B => .res 2 (.reg .b)
  | .res2C => .res 2 (.reg .c)
  | .res2D => .res 2 (.reg .d)
  | .res2E => .res 2 (.reg .e)
  | .res2H => .res 2 (.reg .h)
  | .res2L => .res 2 (.reg .l)
  | .res2AtHl => .res 2 .atHl
  | .res2A => .res 2 (.reg .a)
  | .res3B => .res 3 (.reg .b)
  | .res3C => .res 3 (.reg .c)
  | .res3D => .res 3 (.reg .d)
  | .res3E => .res 3 (.reg .e)
  | .res3H => .res 3 (.reg .h)
  | .res3L => .res 3 (.reg .l)
  | .res3AtHl => .res 3 .atHl
  | .res3A => .res 3 (.reg .a)
  | .res4B => .res 4 (.reg .b)
  | .res4C => .res 4 (.reg .c)
  | .res4D => .res 4 (.reg .d)
  | .res4E => .res 4 (.reg .e)
  | .res4H => .res 4 (.reg .h)
  | .res4L => .res 4 (.reg .l)
  | .res4AtHl => .res 4 .atHl
  | .res4A => .res 4 (.reg .a)
  | .res5B => .res 5 (.reg .b)
  | .res5C => .res 5 (.reg .c)
  | .res5D => .res 5 (.reg .d)
  | .res5E => .res 5 (.reg .e)
  | .res5H => .res 5 (.reg .h)
  | .res5L => .res 5 (.reg .l)
  | .res5AtHl => .res 5 .atHl
  | .res5A => .res 5 (.reg .a)
  | .res6B => .res 6 (.reg .b)
  | .res6C => .res 6 (.reg .c)
  | .res6D => .res 6 (.reg .d)
  | .res6E => .res 6 (.reg .e)
  | .res6H => .res 6 (.reg .h)
  | .res6L => .res 6 (.reg .l)
  | .res6AtHl => .res 6 .atHl
  | .res6A => .res 6 (.reg .a)
  | .res7B => .res 7 (.reg .b)
  | .res7C => .res 7 (.reg .c)
  | .res7D => .res 7 (.reg .d)
  | .res7E => .res 7 (.reg .e)
  | .res7H => .res 7 (.reg .h)
  | .res7L => .res 7 (.reg .l)
  | .res7AtHl => .res 7 .atHl
  | .res7A => .res 7 (.reg .a)
  | .set0B => .set 0 (.reg .b)
  | .set0C => .set 0 (.reg .c)
  | .set0D => .set 0 (.reg .d)
  | .set0E => .set 0 (.reg .e)
  | .set0H => .set 0 (.reg .h)
  | .set0L => .set 0 (.reg .l)
  | .set0AtHl => .set 0 .atHl
  | .set0A => .set 0 (.reg .a)
  | .set1B => .set 1 (.reg .b)
  | .set1C => .set 1 (.reg .c)
  | .set1D => .set 1 (.reg .d)
  | .set1E => .set 1 (.reg .e)
  | .set1H => .set 1 (.reg .h)
  | .set1L => .set 1 (.reg .l)
  | .set1AtHl => .set 1 .atHl
  | .set1A => .set 1 (.reg .a)
  | .set2B => .set 2 (.reg .b)
  | .set2C => .set 2 (.reg .c)
  | .set2D => .set 2 (.reg .d)
  | .set2E => .set 2 (.reg .e)
  | .set2H => .set 2 (.reg .h)
  | .set2L => .set 2 (.reg .l)
  | .set2AtHl => .set 2 .atHl
  | .set2A => .set 2 (.reg .a)
  | .set3B => .set 3 (.reg .b)
  | .set3C => .set 3 (.reg .c)
  | .set3D => .set 3 (.reg .d)
  | .set3E => .set 3 (.reg .e)
  | .set3H => .set 3 (.reg .h)
  | .set3L => .set 3 (.reg .l)
  | .set3AtHl => .set 3 .atHl
  | .set3A => .set 3 (.reg .a)
  | .set4B => .set 4 (.reg .b)
  | .set4C => .set 4 (.reg .c)
  | .set4D => .set 4 (.reg .d)
  | .set4E => .set 4 (.reg .e)
  | .set4H => .set 4 (.reg .h)
  | .set4L => .set 4 (.reg .l)
  | .set4AtHl => .set 4 .atHl
  | .set4A => .set 4 (.reg .a)
  | .set5B => .set 5 (.reg .b)
  | .set5C => .set 5 (.reg .c)
  | .set5D => .set 5 (.reg .d)
  | .set5E => .set 5 (.reg .e)
  | .set5H => .set 5 (.reg .h)
  | .set5L => .set 5 (.reg .l)
  | .set5AtHl => .set 5 .atHl
  | .set5A => .set 5 (.reg .a)
  | .set6B => .set 6 (.reg .b)
  | .set6C => .set 6 (.reg .c)
  | .set6D => .set 6 (.reg .d)
  | .set6E => .set 6 (.reg .e)
  | .set6H => .set 6 (.reg .h)
  | .set6L => .set 6 (.reg .l)
  | .set6AtHl => .set 6 .atHl
  | .set6A => .set 6 (.reg .a)
  | .set7B => .set 7 (.reg .b)
  | .set7C => .set 7 (.reg .c)
  | .set7D => .set 7 (.reg .d)
  | .set7E => .set 7 (.reg .e)
  | .set7H => .set 7 (.reg .h)
  | .set7L => .set 7 (.reg .l)
  | .set7AtHl => .set 7 .atHl
  | .set7A => .set 7 (.reg .a)

end Sys2Proof.Machine
end

