-- ==== Sys2Proof/Laws/Exec.lean ====
section
/-! SUPPORT. How an instruction's effect is shown to be one of the forms of Safety.lean: a register change only, or a store with a
register change. -/

namespace Sys2Proof.Machine

/-- A change of the CPU's registers changes no read. -/
theorem onlyCpu_setCpu (s : State) (c : Cpu) : OnlyCpu s { s with cpu := c } :=
  ⟨rfl, fun b => read8_congr b rfl rfl rfl rfl rfl rfl rfl rfl⟩

/-- A state that differs in its CPU registers only. -/
theorem onlyCpu_of_eq {s t : State} (h : t = { s with cpu := t.cpu }) : OnlyCpu s t := by
  rw [h]; exact onlyCpu_setCpu s t.cpu

theorem setsCpu_of {i : Instr} {s t : State} {c : Cpu} (he : exec i s = .next t) (ht : t = { s with cpu := c }) : SetsCpu i s c :=
  ⟨t, he, by rw [ht], by rw [ht]; exact onlyCpu_setCpu s c⟩

theorem requestIf_setCpu (p : Bool) (b : IntSource) (s : State) (c : Cpu) :
    requestIf p b { s with cpu := c } = { requestIf p b s with cpu := (requestIf p b { s with cpu := c }).cpu } := by
  cases p <;> rfl

theorem setLY_setCpu (v : Byte) (s : State) (c : Cpu) :
    setLY v { s with cpu := c } = { setLY v s with cpu := (setLY v { s with cpu := c }).cpu } := by
  exact requestIf_setCpu (v == s.ppu.lyc && statEnable s 6) .lcdStat
    { s with ppu.ly := v, ppu.coincidence := v == s.ppu.lyc } c

theorem lcdcWrite_setCpu (v : Byte) (s : State) (c : Cpu) :
    lcdcWrite v { s with cpu := c } = { lcdcWrite v s with cpu := (lcdcWrite v { s with cpu := c }).cpu } := by
  unfold lcdcWrite
  have hd : displayOn { s with cpu := c } = displayOn s := rfl
  rw [hd]
  cases displayOn s <;> cases bitOf v 7
  · rfl
  · exact setLY_setCpu 0 { s with ppu.lcdc := v, ppu.mode := .oam, ppu.acc := 0 } c
  · exact congrArg (fun u : State => { u with ppu := { u.ppu with mode := .hblank, acc := 0 } })
      (setLY_setCpu 0 { s with ppu.lcdc := v } c)
  · rfl

theorem dmaFold_setCpu (v : Byte) (l : List Nat) (s : State) (c : Cpu) :
    l.foldl (dmaByte v) { s with cpu := c } = { l.foldl (dmaByte v) s with cpu := c } := by
  induction l generalizing s with
  | nil => rfl
  | cons i l ih =>
    rw [List.foldl_cons, List.foldl_cons, ← ih]
    congr 1
    unfold dmaByte oamWrite
    have hr : ∀ a, read8 { s with cpu := c } a = read8 s a := (onlyCpu_setCpu s c).2
    have ho : oamLocked { s with cpu := c } = oamLocked s := rfl
    rw [hr, ho]
    split <;> rfl

theorem dmaWrite_setCpu (v : Byte) (s : State) (c : Cpu) :
    dmaWrite v { s with cpu := c } = { dmaWrite v s with cpu := c } := dmaFold_setCpu v _ { s with ppu.dma := v } c

/-- A store's effect does not depend on the CPU's registers, which it leaves alone but for a HALT that it ends. -/
theorem write8_setCpu (a : Word) (v : Byte) (s : State) (c : Cpu) :
    write8 a v { s with cpu := c } = { write8 a v s with cpu := (write8 a v { s with cpu := c }).cpu } := by
  unfold write8
  cases regionOf a.toNat with
  | vram o =>
    unfold regionWrite
    have hl : vramLocked { s with cpu := c } = vramLocked s := rfl
    dsimp only
    rw [hl]
    split <;> rfl
  | oam o =>
    show oamWrite o v { s with cpu := c } = { oamWrite o v s with cpu := (oamWrite o v { s with cpu := c }).cpu }
    unfold oamWrite
    have ho : oamLocked { s with cpu := c } = oamLocked s := rfl
    rw [ho]
    split <;> rfl
  | io r =>
    cases r with
    | lcdc => exact lcdcWrite_setCpu v s c
    | dma =>
      show dmaWrite v { s with cpu := c } = { dmaWrite v s with cpu := (dmaWrite v { s with cpu := c }).cpu }
      rw [dmaWrite_setCpu]
    | _ => rfl
  | _ => rfl

theorem write16_setCpu (a v : Word) (s : State) (c : Cpu) :
    write16 a v { s with cpu := c } = { write16 a v s with cpu := (write16 a v { s with cpu := c }).cpu } := by
  unfold write16
  rw [write8_setCpu a (loByte v) s c, write8_setCpu (a + 1) (hiByte v) (write8 a (loByte v) s)]

/-- The state with its interrupt controller in the phase `p`. -/
def State.inPhase (s : State) (p : IcPhase) : State := { s with ic.phase := p }

theorem setLY_inPhase (v : Byte) (s : State) (p : IcPhase) : setLY v (s.inPhase p) = (setLY v s).inPhase p := by
  unfold setLY requestIf
  have h1 : statEnable (s.inPhase p) 6 = statEnable s 6 := rfl
  have h2 : (s.inPhase p).ppu.lyc = s.ppu.lyc := rfl
  rw [h1, h2]
  split <;> rfl

theorem lcdcWrite_inPhase (v : Byte) (s : State) (p : IcPhase) : lcdcWrite v (s.inPhase p) = (lcdcWrite v s).inPhase p := by
  unfold lcdcWrite
  have hd : displayOn (s.inPhase p) = displayOn s := rfl
  rw [hd]
  cases displayOn s <;> cases bitOf v 7
  · rfl
  · exact setLY_inPhase 0 { s with ppu.lcdc := v, ppu.mode := .oam, ppu.acc := 0 } p
  · exact congrArg (fun u : State => { u with ppu := { u.ppu with mode := .hblank, acc := 0 } })
      (setLY_inPhase 0 { s with ppu.lcdc := v } p)
  · rfl

theorem read8_inPhase (s : State) (p : IcPhase) (a : Word) : read8 (s.inPhase p) a = read8 s a := by
  unfold read8
  cases regionOf a.toNat with
  | io r => cases r <;> rfl
  | _ => rfl

theorem dmaFold_inPhase (v : Byte) (l : List Nat) (s : State) (p : IcPhase) :
    l.foldl (dmaByte v) (s.inPhase p) = (l.foldl (dmaByte v) s).inPhase p := by
  induction l generalizing s with
  | nil => rfl
  | cons i l ih =>
    rw [List.foldl_cons, List.foldl_cons, ← ih]
    congr 1
    unfold dmaByte oamWrite
    have ho : oamLocked (s.inPhase p) = oamLocked s := rfl
    rw [read8_inPhase, ho]
    split <;> rfl

/-- A store does not see the interrupt controller's phase. -/
theorem write8_inPhase (a : Word) (v : Byte) (s : State) (p : IcPhase) : write8 a v (s.inPhase p) = (write8 a v s).inPhase p := by
  unfold write8
  cases regionOf a.toNat with
  | vram o =>
    unfold regionWrite
    have hl : vramLocked (s.inPhase p) = vramLocked s := rfl
    dsimp only
    rw [hl]
    split <;> rfl
  | oam o =>
    show oamWrite o v (s.inPhase p) = (oamWrite o v s).inPhase p
    unfold oamWrite
    have ho : oamLocked (s.inPhase p) = oamLocked s := rfl
    rw [ho]
    split <;> rfl
  | io r =>
    cases r with
    | lcdc => exact lcdcWrite_inPhase v s p
    | dma => exact dmaFold_inPhase v _ { s with ppu.dma := v } p
    | _ => rfl
  | _ => rfl

theorem write16_inPhase (a v : Word) (s : State) (p : IcPhase) : write16 a v (s.inPhase p) = (write16 a v s).inPhase p := by
  unfold write16
  rw [write8_inPhase, write8_inPhase]

/-- A change of CPU registers that leaves HALT alone. -/
def KeepsHalted (f : Cpu → Cpu) : Prop := ∀ (c : Cpu) (h : Bool), f { c with halted := h } = { f c with halted := h }

theorem cpuIs_of_store {c : Cpu} {t : State} {f : Cpu → Cpu} (hf : KeepsHalted f) (hc : t.cpu = { c with halted := t.cpu.halted })
    (hw : t.cpu.halted = true → c.halted = true) (t' : State) (ht : t'.cpu = f t.cpu) : CpuIs t' (f c) := by
  have h1 : f t.cpu = { f c with halted := t.cpu.halted } := by rw [hc, hf]
  have h2 : (f c).halted = c.halted := by
    simpa using congrArg Cpu.halted (hf c c.halted)
  constructor
  · rw [ht, h1]
  · rw [ht, h1, h2]; exact hw

theorem StoreOnly.keepsHostState {s t : State} (h : StoreOnly s t) : KeepsHostState s t :=
  ⟨h.cfg, h.rom, h.romLen, h.kind, h.pressed, h.sched, h.host⟩

theorem KeepsHostState.setCpu {s t : State} (h : KeepsHostState s t) (c : Cpu) : KeepsHostState s { t with cpu := c } := h

theorem memoryFrame_write8 (a : Word) (v : Byte) (s : State) (c : Cpu) : MemoryFrame s { write8 a v s with cpu := c } a := by
  intro b hb
  rw [(onlyCpu_setCpu _ c).2]
  exact read8_write8_other a b v s hb

theorem memoryFrame16_write16 (a v : Word) (s : State) (c : Cpu) : MemoryFrame16 s { write16 a v s with cpu := c } a := by
  intro b hb hb'
  rw [(onlyCpu_setCpu _ c).2]
  have hk : (write8 a (loByte v) s).cart.kind = s.cart.kind := (write8_storeOnly a (loByte v) s).kind
  unfold write16
  rw [read8_write8_other (a + 1) b _ _ (by rw [hk]; exact hb'), read8_write8_other a b _ s hb]

/-- A byte store made with registers `c0`, followed by a register change `f`. -/
theorem storedAt_of (a : Word) (v : Byte) (s t : State) (c0 : Cpu) (f : Cpu → Cpu) (hf : KeepsHalted f)
    (ht : t = { write8 a v { s with cpu := c0 } with cpu := f (write8 a v { s with cpu := c0 }).cpu }) :
    StoredAt s t a v (f c0) := by
  have hs := write8_storeOnly a v { s with cpu := c0 }
  have h1 := write8_setCpu a v s c0
  have h0 : t = { write8 a v s with cpu := t.cpu } := by rw [ht, h1]
  refine ⟨h0, cpuIs_of_store hf hs.cpu hs.wake t (by rw [ht]), ?_, ?_⟩
  · rw [h0]; exact memoryFrame_write8 a v s _
  · rw [h0]; exact (write8_storeOnly a v s).keepsHostState

/-- A 16-bit store made with registers `c0`, followed by a register change `f`. -/
theorem storedAt16_of (a v : Word) (s t : State) (c0 : Cpu) (f : Cpu → Cpu) (hf : KeepsHalted f)
    (ht : t = { write16 a v { s with cpu := c0 } with cpu := f (write16 a v { s with cpu := c0 }).cpu }) :
    StoredAt16 s t a v (f c0) := by
  have hs := write16_storeOnly a v { s with cpu := c0 }
  have h1 := write16_setCpu a v s c0
  have h0 : t = { write16 a v s with cpu := t.cpu } := by rw [ht, h1]
  refine ⟨h0, cpuIs_of_store hf hs.cpu hs.wake t (by rw [ht]), ?_, ?_⟩
  · rw [h0]; exact memoryFrame16_write16 a v s _
  · rw [h0]; exact (write16_storeOnly a v s).keepsHostState

/-- A byte store and nothing else. -/
theorem storedAt_write8 (a : Word) (v : Byte) (s : State) : StoredAt s (write8 a v s) a v s.cpu :=
  storedAt_of a v s _ s.cpu id (fun _ _ => rfl) rfl

/-- A 16-bit store and nothing else. -/
theorem storedAt16_write16 (a v : Word) (s : State) : StoredAt16 s (write16 a v s) a v s.cpu :=
  storedAt16_of a v s _ s.cpu id (fun _ _ => rfl) rfl

/-- Serving a source with IME set, the controller's phase aside. -/
theorem dispatch_taken (b : IntSource) (s : State) (h : s.cpu.ime = true) :
    dispatch b s =
      setPc b.vector (write16 (s.cpu.sp - 2) s.cpu.pc
        { s with ic.reqs := s.ic.reqs &&& ~~~ b.mask, ic.phase := .idle,
                 cpu := { s.cpu with ime := false, halted := false, sp := s.cpu.sp - 2 } }) := by
  have h1 := write16_inPhase (s.cpu.sp - 2) s.cpu.pc
    { s with ic.reqs := s.ic.reqs &&& ~~~ b.mask, ic.phase := .idle,
             cpu := { s.cpu with ime := false, halted := false, sp := s.cpu.sp - 2 } } .dispatching
  have hp : ∀ u v : State, v = u.inPhase .dispatching → u.ic.phase = .idle →
      (setPc b.vector v).inPhase .idle = setPc b.vector u := by
    rintro u v rfl hu
    unfold State.inPhase setPc
    rw [← hu]
  have h2 : dispatch b s = (interrupt b.vector
      { s with ic.phase := .dispatching, ic.reqs := s.ic.reqs &&& ~~~ b.mask }).inPhase .idle := rfl
  rw [h2]
  unfold interrupt
  rw [if_pos h]
  exact hp _ _ h1 (write16_storeOnly _ _ _).phase

/-- An instruction that writes one 8-bit register and, it may be, F. -/
theorem setsReg_of {i : Instr} {s t : State} (r : R8) (v f : Byte) (he : exec i s = .next t)
    (ht : t = { setReg8 r v s with cpu := { (setReg8 r v s).cpu with f := f } }) : SetsReg i s r v f := by
  refine ⟨t, he, ?_, ?_, ?_, ?_⟩
  · intro q; rw [ht]; cases r <;> cases q <;> rfl
  · rw [ht]
  · rw [ht]; cases r <;> rfl
  · rw [ht]
    have h0 : ∀ c : Cpu, ({ setReg8 r v s with cpu := c } : State) = { s with cpu := c } := by intro c; cases r <;> rfl
    rw [h0]
    exact onlyCpu_setCpu s _

/-- An instruction that writes one pair and, it may be, F. -/
theorem setsPair_of {i : Instr} {s t : State} (p : R16) (v : Word) (f : Byte) (he : exec i s = .next t)
    (ht : t = { setReg16 p v s with cpu := { (setReg16 p v s).cpu with f := f } }) : SetsPair i s p v f := by
  refine ⟨t, he, ?_, ?_, ?_, ?_⟩
  · intro q
    have hq : reg16 t q = reg16 (setReg16 p v s) q := by rw [ht]; cases p <;> cases q <;> rfl
    rw [hq]
    split
    · rename_i h; subst h; exact reg16_setReg16 q v s
    · rename_i h; cases p <;> cases q <;> first | rfl | exact absurd rfl h
  · rw [ht]
  · rw [ht]; cases p <;> rfl
  · rw [ht]
    have h0 : ∀ c : Cpu, ({ setReg16 p v s with cpu := c } : State) = { s with cpu := c } := by intro c; cases p <;> rfl
    rw [h0]
    exact onlyCpu_setCpu s _

/-- F as it stands is what writing its own value leaves. -/
theorem setReg8_f (r : R8) (v : Byte) (s : State) : (setReg8 r v s).cpu.f = s.cpu.f := by cases r <;> rfl

theorem setReg16_f (p : R16) (v : Word) (s : State) : (setReg16 p v s).cpu.f = s.cpu.f := by cases p <;> rfl

theorem condCost_eq (cfg : Config) (n t : Nat) : condCost cfg n t = if cfg.condBranchCost = .notTaken then n else t := by
  unfold condCost
  cases cfg.condBranchCost <;> rfl

/-- A conditional instruction whose cost is the conditional cell. -/
theorem codedCond_of {i : Instr} {bytes : List Byte} {n t : Nat}
    (h : ∀ cfg : Config, encode cfg.stopLength i = bytes ∧ instrCost cfg i = condCost cfg n t) : CodedCond i bytes n t :=
  fun cfg => ⟨(h cfg).1, (h cfg).2.trans (condCost_eq cfg n t)⟩

theorem highPage_eq (a : Byte) : highPage a = 0xFF00 + a.setWidth 16 := by
  apply BitVec.eq_of_toNat_eq
  unfold highPage
  rw [joinBytes_toNat]
  have := a.isLt
  simp
  omega

/-- A store leaves HL alone. -/
@[simp] theorem hl_write8 (a : Word) (v : Byte) (s : State) : hl (write8 a v s) = hl s := by
  unfold hl
  rw [(write8_storeOnly a v s).cpu]

end Sys2Proof.Machine
end

