-- ==== Sys2Proof/Laws/Effects.lean ====
section
/-! SUPPORT. Everything an instruction can do to the machine: changes of CPU registers that keep F legal and the cycle counter as
it is, and byte stores, in some order. Every whole-machine law about exec goes through this one relation. -/

namespace Sys2Proof.Machine

/-- `t` comes from `s` by changes of CPU registers and byte stores. -/
inductive Effects (s : State) : State → Prop where
  | refl : Effects s s
  | cpu {t : State} (h : Effects s t) (c : Cpu) (hf : c.f = t.cpu.f ∨ c.f &&& 0x0F = 0) (hc : c.cycles = t.cpu.cycles) :
    Effects s { t with cpu := c }
  | store {t : State} (h : Effects s t) (a : Word) (v : Byte) : Effects s (write8 a v t)

/-- A register change written as a function of the state. -/
theorem Effects.of_cpu {s t u : State} (h : Effects s t) (hu : u = { t with cpu := u.cpu })
    (hf : u.cpu.f = t.cpu.f ∨ u.cpu.f &&& 0x0F = 0) (hc : u.cpu.cycles = t.cpu.cycles) : Effects s u := by
  rw [hu]; exact h.cpu u.cpu hf hc

theorem Effects.setReg8 {s t : State} (h : Effects s t) (r : R8) (v : Byte) : Effects s (setReg8 r v t) :=
  h.of_cpu (by cases r <;> rfl) (.inl (setReg8_f r v t)) (by cases r <;> rfl)

theorem Effects.setFlags {s t : State} (h : Effects s t) (fl : Flags) : Effects s (setFlags fl t) :=
  h.of_cpu rfl (.inr (packFlags_lowNibble fl)) rfl

theorem Effects.setReg16 {s t : State} (h : Effects s t) (p : R16) (v : Word) : Effects s (setReg16 p v t) :=
  h.of_cpu (by cases p <;> rfl) (.inl (setReg16_f p v t)) (by cases p <;> rfl)

theorem Effects.setStackReg {s t : State} (h : Effects s t) (p : R16Stack) (v : Word) : Effects s (setStackReg p v t) := by
  refine h.of_cpu (by cases p <;> rfl) ?_ (by cases p <;> rfl)
  cases p
  case af => exact .inr (masked_lowNibble _)
  all_goals exact .inl rfl

theorem Effects.setHl {s t : State} (h : Effects s t) (v : Word) : Effects s (setHl v t) := h.setReg16 .hl v

theorem Effects.setSp {s t : State} (h : Effects s t) (v : Word) : Effects s (setSp v t) := h.setReg16 .sp v

theorem Effects.setPc {s t : State} (h : Effects s t) (v : Word) : Effects s (setPc v t) := h.of_cpu rfl (.inl rfl) rfl

theorem Effects.writeLoc {s t : State} (h : Effects s t) (x : Loc8) (v : Byte) : Effects s (writeLoc x v t) := by
  cases x with
  | reg r => exact h.setReg8 r v
  | atHl => exact h.store _ v

theorem Effects.write16 {s t : State} (h : Effects s t) (a v : Word) : Effects s (write16 a v t) := (h.store _ _).store _ _

theorem Effects.push16 {s t : State} (h : Effects s t) (v : Word) : Effects s (push16 v t) := (h.setSp _).write16 _ _

theorem Effects.putResult {s t : State} (h : Effects s t) (x : Loc8) (r : Result8) : Effects s (putResult x r t) :=
  (h.writeLoc x r.res).setFlags r.fl

theorem Effects.rotateLoc {s t : State} (h : Effects s t) (op : RotOp) (x : Loc8) : Effects s (rotateLoc op x t) :=
  (h.writeLoc x _).setFlags _

theorem Effects.rotateA {s t : State} (h : Effects s t) (op : RotOp) : Effects s (rotateA op t) := (h.setReg8 .a _).setFlags _

theorem Effects.call {s t : State} (h : Effects s t) (a : Word) : Effects s (call a t) := (h.push16 _).setPc _

theorem Effects.ret {s t : State} (h : Effects s t) : Effects s (ret t) := (h.setSp _).setPc _

theorem Effects.whenCond {s t : State} (cc : Cond) (f : State → State) (h : Effects s t) (hf : Effects s (f t)) :
    Effects s (whenCond cc f t) := by
  unfold Machine.whenCond
  split
  · exact hf
  · exact h

theorem Effects.cbEntry {s t : State} (h : Effects s t) (op2 : Byte) : Effects s (runCbEntry op2 t) := by
  unfold runCbEntry
  dsimp only
  split
  · exact h.rotateLoc _ _
  · exact h.setFlags _
  · exact h.writeLoc _ _
  · exact h.writeLoc _ _

/-- Every instruction, in every state: register changes and byte stores, and nothing else. -/
theorem exec_effects (i : Instr) (s t : State) (he : exec i s = .next t) : Effects s t := by
  have h := Effects.refl (s := s)
  suffices hs : ∃ u, exec i s = .next u ∧ Effects s u by
    obtain ⟨u, hu, hE⟩ := hs
    rw [he] at hu
    cases hu
    exact hE
  cases ofFamily i with
  | ldReg dst src => exact ⟨_, exec_ldReg dst src s, h.writeLoc _ _⟩
  | ldRegImm dst d8 => exact ⟨_, exec_ldRegImm dst d8 s, h.writeLoc _ _⟩
  | ldRegAtHl dst => exact ⟨_, exec_ldRegAtHl dst s, h.writeLoc _ _⟩
  | ldAtHlReg src => exact ⟨_, exec_ldAtHlReg src s, h.writeLoc _ _⟩
  | incLoc x => exact ⟨_, exec_incLoc x s, h.putResult _ _⟩
  | decLoc x => exact ⟨_, exec_decLoc x s, h.putResult _ _⟩
  | aluLoc op x => exact ⟨_, exec_aluLoc op x s, h.putResult _ _⟩
  | aluImm op d8 => exact ⟨_, exec_aluImm op d8 s, h.putResult _ _⟩
  | ldPair p d16 => exact ⟨_, exec_ldPair p d16 s, h.setReg16 _ _⟩
  | incPair p => exact ⟨_, exec_incPair p s, h.setReg16 _ _⟩
  | decPair p => exact ⟨_, exec_decPair p s, h.setReg16 _ _⟩
  | addHl p => exact ⟨_, exec_addHl p s, (h.setHl _).setFlags _⟩
  | push p => exact ⟨_, exec_push p s, h.push16 _⟩
  | pop p => exact ⟨_, exec_pop p s, (h.setSp _).setStackReg _ _⟩
  | jpCond cc a16 => exact ⟨_, exec_jpCond cc a16 s, .whenCond _ _ h (h.setPc _)⟩
  | jrCond cc e8 => exact ⟨_, exec_jrCond cc e8 s, .whenCond _ _ h (h.setPc _)⟩
  | callCond cc a16 => exact ⟨_, exec_callCond cc a16 s, .whenCond _ _ h (h.call _)⟩
  | retCond cc => exact ⟨_, exec_retCond cc s, .whenCond _ _ h h.ret⟩
  | rst y => exact ⟨_, exec_rst y s, h.call _⟩
  | rot op x => exact ⟨_, exec_rot op x s, h.rotateLoc _ _⟩
  | bit b x => exact ⟨_, exec_bit b x s, h.setFlags _⟩
  | res b x => exact ⟨_, exec_res b x s, h.writeLoc _ _⟩
  | set b x => exact ⟨_, exec_set b x s, h.writeLoc _ _⟩
  | illegal u => exact ⟨_, exec_illegal u s, h⟩
  | nop => exact ⟨_, rfl, h⟩
  | ldAtBcA => exact ⟨_, rfl, h.store _ _⟩
  | rlca => exact ⟨_, rfl, h.rotateA _⟩
  | ldAtA16Sp a16 => exact ⟨_, rfl, h.write16 _ _⟩
  | ldAAtBc => exact ⟨_, rfl, h.setReg8 .a _⟩
  | rrca => exact ⟨_, rfl, h.rotateA _⟩
  | stop => exact ⟨_, rfl, h.of_cpu rfl (.inl rfl) rfl⟩
  | ldAtDeA => exact ⟨_, rfl, h.store _ _⟩
  | rla => exact ⟨_, rfl, h.rotateA _⟩
  | jrE8 e8 => exact ⟨_, rfl, h.setPc _⟩
  | ldAAtDe => exact ⟨_, rfl, h.setReg8 .a _⟩
  | rra => exact ⟨_, rfl, h.rotateA _⟩
  | ldAtHliA => exact ⟨_, rfl, (h.store _ _).setHl _⟩
  | daa => exact ⟨_, rfl, h.putResult _ _⟩
  | ldAAtHli => exact ⟨_, rfl, (h.setReg8 .a _).setHl _⟩
  | cpl => exact ⟨_, rfl, h.putResult _ _⟩
  | ldAtHldA => exact ⟨_, rfl, (h.store _ _).setHl _⟩
  | ldAtHlD8 d8 => exact ⟨_, rfl, h.writeLoc .atHl _⟩
  | scf => exact ⟨_, rfl, h.setFlags _⟩
  | ldAAtHld => exact ⟨_, rfl, (h.setReg8 .a _).setHl _⟩
  | ccf => exact ⟨_, rfl, h.setFlags _⟩
  | halt => exact ⟨_, rfl, h.of_cpu rfl (.inl rfl) rfl⟩
  | jpA16 a16 => exact ⟨_, rfl, h.setPc _⟩
  | ret => exact ⟨_, rfl, h.ret⟩
  | prefixCb => exact ⟨_, rfl, (h.setPc _).cbEntry _⟩
  | callA16 a16 => exact ⟨_, rfl, h.call _⟩
  | reti => exact ⟨_, rfl, h.ret.of_cpu rfl (.inl rfl) rfl⟩
  | ldhAtA8A a8 => exact ⟨_, rfl, h.store _ _⟩
  | ldAtCA => exact ⟨_, rfl, h.store _ _⟩
  | addSpE8 e8 => exact ⟨_, rfl, (h.setSp _).setFlags _⟩
  | jpHl => exact ⟨_, rfl, h.setPc _⟩
  | ldAtA16A a16 => exact ⟨_, rfl, h.store _ _⟩
  | ldhAAtA8 a8 => exact ⟨_, rfl, h.setReg8 .a _⟩
  | ldAAtC => exact ⟨_, rfl, h.setReg8 .a _⟩
  | di => exact ⟨_, rfl, h.of_cpu rfl (.inl rfl) rfl⟩
  | ldHlSpE8 e8 => exact ⟨_, rfl, (h.setHl _).setFlags _⟩
  | ldSpHl => exact ⟨_, rfl, h.setSp _⟩
  | ldAAtA16 a16 => exact ⟨_, rfl, h.setReg8 .a _⟩
  | ei => exact ⟨_, rfl, h.of_cpu rfl (.inl rfl) rfl⟩

/-- What no instruction writes. -/
theorem Effects.keepsHostState {s t : State} (h : Effects s t) : KeepsHostState s t := by
  induction h with
  | refl => exact ⟨rfl, rfl, rfl, rfl, fun _ => rfl, rfl, rfl⟩
  | cpu _ c _ _ ih => exact ih
  | store _ a v ih =>
    rename_i t _
    have k := write8_storeOnly a v t
    obtain ⟨h1, h2, h3, h4, h5, h6, h7⟩ := ih
    exact ⟨k.cfg.trans h1, k.rom.trans h2, k.romLen.trans h3, k.kind.trans h4, fun key => (k.pressed key).trans (h5 key),
      k.sched.trans h6, k.host.trans h7⟩

theorem Effects.cycles {s t : State} (h : Effects s t) : t.cpu.cycles = s.cpu.cycles := by
  induction h with
  | refl => rfl
  | cpu _ c _ hc ih => exact hc.trans ih
  | store _ a v ih =>
    rename_i t _
    rw [← ih, (write8_storeOnly a v t).cpu]

theorem Effects.ramLen {s t : State} (h : Effects s t) : t.cart.ramLen = s.cart.ramLen := by
  induction h with
  | refl => rfl
  | cpu _ c _ _ ih => exact ih
  | store _ a v ih =>
    rename_i t _
    exact (write8_storeOnly a v t).ramLen.trans ih

end Sys2Proof.Machine
end

