-- ==== Sys2Proof/Laws/Flags.lean ====
section
/-! SUPPORT. The flag computations in the terms of 8-bit and 16-bit arithmetic: sums and differences as wrapping operations, carries
as comparisons of masked operands. -/

namespace Sys2Proof.Machine

theorem lowNibble_eq (v : Byte) : (v &&& 0x0F).toNat = lowNibble v := by
  rw [BitVec.toNat_and]
  exact Nat.and_two_pow_sub_one_eq_mod v.toNat 4

theorem low12_eq (v : Word) : (v &&& 0x0FFF).toNat = v.toNat % 0x1000 := by
  rw [BitVec.toNat_and]
  exact Nat.and_two_pow_sub_one_eq_mod v.toNat 12

/-- The difference of R451 is the wrapping one. -/
theorem sub8_res (a b : Byte) (c : Bool) : (sub8 a b c).res = a - b - BitVec.ofNat 8 c.toNat := by
  apply BitVec.eq_of_toNat_eq
  have := a.isLt
  have := b.isLt
  show (BitVec.ofInt 8 _).toNat = _
  rw [BitVec.toNat_ofInt]
  simp only [BitVec.toNat_sub, BitVec.toNat_ofNat]
  cases c <;> simp <;> omega

theorem lowNibble_eq_iff (v w : Byte) : lowNibble v = w.toNat ↔ v &&& 0x0F = w := by
  rw [← lowNibble_eq]
  exact ⟨fun h => BitVec.eq_of_toNat_eq h, fun h => congrArg _ h⟩

/-- INC of a byte (R477). -/
theorem inc8_eq (v : Byte) (c : Bool) :
    inc8 v c = { res := v + 1, fl := { z := decide (v = 0xFF), n := false, h := decide (v &&& 0x0F = 0x0F), c := c } } := by
  have h1 : BitVec.ofNat 8 (v.toNat + 1) = v + 1 := by apply BitVec.eq_of_toNat_eq; simp
  have h2 : (v + 1 == 0) = decide (v = 0xFF) := by
    rw [Bool.eq_iff_iff]; simp only [beq_iff_eq, decide_eq_true_eq]; bv_omega
  have h3 : decide (lowNibble v = 0x0F) = decide (v &&& 0x0F = 0x0F) := decide_eq_decide.2 (lowNibble_eq_iff v 0x0F)
  unfold inc8
  rw [h1, h3]
  dsimp only
  rw [h2]

/-- DEC of a byte (R479). -/
theorem dec8_eq (v : Byte) (c : Bool) :
    dec8 v c = { res := v - 1, fl := { z := decide (v = 0x01), n := true, h := decide (v &&& 0x0F = 0), c := c } } := by
  have h1 : BitVec.ofInt 8 ((v.toNat : Int) - 1) = v - 1 := by
    apply BitVec.eq_of_toNat_eq
    have := v.isLt
    rw [BitVec.toNat_ofInt, BitVec.toNat_sub, show (1 : Byte).toNat = 1 from rfl]
    omega
  have h2 : (v - 1 == 0) = decide (v = 0x01) := by
    rw [Bool.eq_iff_iff]; simp only [beq_iff_eq, decide_eq_true_eq]; bv_omega
  have h3 : decide (lowNibble v = 0) = decide (v &&& 0x0F = 0) := decide_eq_decide.2 (lowNibble_eq_iff v 0)
  unfold dec8
  rw [h1, h3]
  dsimp only
  rw [h2]

/-- Every rotate and shift is its whole-byte operation (R535 to R549). -/
theorem rotSpec_eq (v : Byte) (cf : Bool) (op : RotOp) : rotSpec v cf op = (rotValue op v cf, rotCarry op v) := by
  cases op <;> cases cf <;> revert v <;> decide

theorem exec_alu (op : AluOp) (src : Src8) (s : State) : exec (.alu op src) s = .next (aluOn op src s) := by
  cases src with
  | loc x => exact exec_aluLoc op x s
  | imm d8 => exact exec_aluImm op d8 s

end Sys2Proof.Machine
end

