-- ==== Sys2Proof/Laws/Ppu.lean ====
section
/-! SUPPORT. The PPU's mode loop: what a transition does to the accumulator, that the loop's fuel suffices, and the legal states of
the PPU it keeps. -/

namespace Sys2Proof.Machine

/-- Every mode lasts at least 80 cycles (R801). -/
theorem PpuMode.length_ge (m : PpuMode) : 80 ≤ m.length := by cases m <;> decide

/-- The state with `n` cycles more in the accumulator. -/
def State.addAcc (n : Nat) (s : State) : State := { s with ppu.acc := s.ppu.acc + n }

@[simp] theorem addAcc_ppu (n : Nat) (s : State) : (s.addAcc n).ppu = { s.ppu with acc := s.ppu.acc + n } := rfl

theorem addAcc_add (m n : Nat) (s : State) : (s.addAcc m).addAcc n = s.addAcc (m + n) := by
  simp [State.addAcc, Nat.add_assoc]

theorem requestIf_addAcc (p : Bool) (b : IntSource) (n : Nat) (s : State) :
    requestIf p b (s.addAcc n) = (requestIf p b s).addAcc n := by
  cases p <;> rfl

theorem setLY_addAcc (v : Byte) (n : Nat) (s : State) : setLY v (s.addAcc n) = (setLY v s).addAcc n :=
  requestIf_addAcc (v == s.ppu.lyc && statEnable s 6) .lcdStat n { s with ppu.ly := v, ppu.coincidence := v == s.ppu.lyc }

theorem enterVBlank_addAcc (n : Nat) (s : State) : enterVBlank (s.addAcc n) = (enterVBlank s).addAcc n :=
  requestIf_addAcc (s.cfg.statExtraSources && statEnable s 4) .lcdStat n
    (request .vblank { s with ppu.mode := .vblank, ppu.frameReady := true })

theorem enterOAM_addAcc (n : Nat) (s : State) : enterOAM (s.addAcc n) = (enterOAM s).addAcc n :=
  requestIf_addAcc (s.cfg.statExtraSources && statEnable s 5) .lcdStat n { s with ppu.mode := .oam }

theorem enterHBlank_addAcc (n : Nat) (s : State) : enterHBlank (s.addAcc n) = (enterHBlank s).addAcc n :=
  requestIf_addAcc (statEnable s 3) .lcdStat n { s with ppu := renderLine s.ppu.ly.toNat { s.ppu with mode := .hblank } }

theorem endHBlankLine_last (s : State) (h : s.ppu.ly + 1 = 144) : endHBlankLine s = enterVBlank (setLY (s.ppu.ly + 1) s) :=
  if_pos (by rw [setLY_ppu]; exact h)

theorem endHBlankLine_inner (s : State) (h : s.ppu.ly + 1 ≠ 144) : endHBlankLine s = enterOAM (setLY (s.ppu.ly + 1) s) :=
  if_neg (by rw [setLY_ppu]; exact h)

theorem endVBlankLine_last (s : State) (h : s.ppu.ly = 153) : endVBlankLine s = enterOAM (setLY 0 s) := if_pos h

theorem endVBlankLine_inner (s : State) (h : s.ppu.ly ≠ 153) : endVBlankLine s = setLY (s.ppu.ly + 1) s := if_neg h

theorem endHBlankLine_addAcc (n : Nat) (s : State) : endHBlankLine (s.addAcc n) = (endHBlankLine s).addAcc n := by
  have hy : (s.addAcc n).ppu.ly = s.ppu.ly := rfl
  by_cases hl : s.ppu.ly + 1 = 144
  · rw [endHBlankLine_last s hl, endHBlankLine_last (s.addAcc n) hl, hy, setLY_addAcc, enterVBlank_addAcc]
  · rw [endHBlankLine_inner s hl, endHBlankLine_inner (s.addAcc n) hl, hy, setLY_addAcc, enterOAM_addAcc]

theorem endVBlankLine_addAcc (n : Nat) (s : State) : endVBlankLine (s.addAcc n) = (endVBlankLine s).addAcc n := by
  have hy : (s.addAcc n).ppu.ly = s.ppu.ly := rfl
  by_cases hl : s.ppu.ly = 153
  · rw [endVBlankLine_last s hl, endVBlankLine_last (s.addAcc n) hl, setLY_addAcc, enterOAM_addAcc]
  · rw [endVBlankLine_inner s hl, endVBlankLine_inner (s.addAcc n) hl, hy, setLY_addAcc]

/-- The state with its mode's length taken off the accumulator. -/
def State.offAcc (s : State) : State := { s with ppu.acc := s.ppu.acc - s.ppu.mode.length }

/-- A transition, by the mode it ends. -/
theorem ppuTransition_eq (s : State) :
    ppuTransition s =
      match s.ppu.mode with
      | .oam => { s.offAcc with ppu.mode := .vram }
      | .vram => enterHBlank s.offAcc
      | .hblank => endHBlankLine s.offAcc
      | .vblank => endVBlankLine s.offAcc := rfl

/-- Cycles that come later can be added before a transition that is due. -/
theorem ppuTransition_addAcc (n : Nat) (s : State) (h : s.ppu.mode.length ≤ s.ppu.acc) :
    ppuTransition (s.addAcc n) = (ppuTransition s).addAcc n := by
  have ht : (s.addAcc n).offAcc = s.offAcc.addAcc n := by
    simp only [State.addAcc, State.offAcc]
    rw [Nat.sub_add_comm h]
  have hm : (s.addAcc n).ppu.mode = s.ppu.mode := rfl
  rw [ppuTransition_eq, ppuTransition_eq, ht, hm]
  cases s.ppu.mode with
  | oam => rfl
  | vram => exact enterHBlank_addAcc n _
  | hblank => exact endHBlankLine_addAcc n _
  | vblank => exact endVBlankLine_addAcc n _

theorem endHBlankLine_ppu (s : State) :
    (endHBlankLine s).ppu =
      if s.ppu.ly + 1 = 144 then
        { s.ppu with ly := s.ppu.ly + 1, coincidence := s.ppu.ly + 1 == s.ppu.lyc, mode := .vblank, frameReady := true }
      else { s.ppu with ly := s.ppu.ly + 1, coincidence := s.ppu.ly + 1 == s.ppu.lyc, mode := .oam } := by
  by_cases hl : s.ppu.ly + 1 = 144
  · rw [endHBlankLine_last s hl, if_pos hl, enterVBlank_ppu, setLY_ppu]
  · rw [endHBlankLine_inner s hl, if_neg hl, enterOAM_ppu, setLY_ppu]

theorem endVBlankLine_ppu (s : State) :
    (endVBlankLine s).ppu =
      if s.ppu.ly = 153 then { s.ppu with ly := 0, coincidence := 0 == s.ppu.lyc, mode := .oam }
      else { s.ppu with ly := s.ppu.ly + 1, coincidence := s.ppu.ly + 1 == s.ppu.lyc } := by
  by_cases hl : s.ppu.ly = 153
  · rw [endVBlankLine_last s hl, if_pos hl, enterOAM_ppu, setLY_ppu]
  · rw [endVBlankLine_inner s hl, if_neg hl, setLY_ppu]

/-- The PPU after a transition, by the mode it ends (R802 to R808). -/
theorem ppuTransition_ppu (s : State) :
    (ppuTransition s).ppu =
      match s.ppu.mode with
      | .oam => { s.offAcc.ppu with mode := .vram }
      | .vram => renderLine s.ppu.ly.toNat { s.offAcc.ppu with mode := .hblank }
      | .hblank => (endHBlankLine s.offAcc).ppu
      | .vblank => (endVBlankLine s.offAcc).ppu := by
  rw [ppuTransition_eq]
  cases s.ppu.mode with
  | vram => exact enterHBlank_ppu s.offAcc
  | _ => rfl

/-- A transition takes the mode's length off the accumulator (R802). -/
@[simp] theorem ppuTransition_acc (s : State) : (ppuTransition s).ppu.acc = s.ppu.acc - s.ppu.mode.length := by
  rw [ppuTransition_ppu]
  have h : s.offAcc.ppu.acc = s.ppu.acc - s.ppu.mode.length := rfl
  cases hm : s.ppu.mode with
  | oam => rw [hm] at h; exact h
  | vram => rw [hm] at h; exact h
  | hblank => dsimp only; rw [endHBlankLine_ppu, ← hm, ← h]; split <;> rfl
  | vblank => dsimp only; rw [endVBlankLine_ppu, ← hm, ← h]; split <;> rfl

/-- A transition leaves LCDC alone. -/
@[simp] theorem ppuTransition_lcdc (s : State) : (ppuTransition s).ppu.lcdc = s.ppu.lcdc := by
  rw [ppuTransition_ppu]
  cases s.ppu.mode with
  | oam => rfl
  | vram => rfl
  | hblank => dsimp only; rw [endHBlankLine_ppu]; split <;> rfl
  | vblank => dsimp only; rw [endVBlankLine_ppu]; split <;> rfl

theorem ppuLoop_done (fuel : Nat) (s : State) (h : s.ppu.acc < s.ppu.mode.length) : ppuLoop fuel s = s := by
  cases fuel with
  | zero => rfl
  | succ n => rw [ppuLoop, if_pos h]

theorem ppuLoop_due (fuel : Nat) (s : State) (h : ¬ s.ppu.acc < s.ppu.mode.length) :
    ppuLoop (fuel + 1) s = ppuLoop fuel (ppuTransition s) := by
  rw [ppuLoop, if_neg h]

theorem ppuTransition_fuel {s : State} {f : Nat} (h : ¬ s.ppu.acc < s.ppu.mode.length) (hf : s.ppu.acc / 80 ≤ f + 1) :
    (ppuTransition s).ppu.acc / 80 ≤ f := by
  have := s.ppu.mode.length_ge
  rw [ppuTransition_acc]
  omega

theorem fuel_pos {s : State} {f : Nat} (h : ¬ s.ppu.acc < s.ppu.mode.length) (hf : s.ppu.acc / 80 ≤ f) : ∃ g, f = g + 1 := by
  have := s.ppu.mode.length_ge
  exact ⟨f - 1, by omega⟩

/-- Where the fuel covers the accumulator, the loop ends with the accumulator below the mode's length. -/
theorem ppuLoop_acc_lt (f : Nat) (s : State) (hf : s.ppu.acc / 80 ≤ f) : (ppuLoop f s).ppu.acc < (ppuLoop f s).ppu.mode.length := by
  induction f generalizing s with
  | zero =>
    have := s.ppu.mode.length_ge
    show s.ppu.acc < s.ppu.mode.length
    omega
  | succ n ih =>
    by_cases h : s.ppu.acc < s.ppu.mode.length
    · rwa [ppuLoop_done _ _ h]
    · rw [ppuLoop_due _ _ h]
      exact ih _ (ppuTransition_fuel h hf)

/-- More fuel changes nothing. -/
theorem ppuLoop_fuel (f g : Nat) (s : State) (hf : s.ppu.acc / 80 ≤ f) (hg : s.ppu.acc / 80 ≤ g) : ppuLoop f s = ppuLoop g s := by
  induction f generalizing g s with
  | zero =>
    have := s.ppu.mode.length_ge
    rw [ppuLoop_done g s (by omega)]; rfl
  | succ n ih =>
    by_cases h : s.ppu.acc < s.ppu.mode.length
    · rw [ppuLoop_done _ _ h, ppuLoop_done _ _ h]
    · obtain ⟨k, rfl⟩ := fuel_pos h hg
      rw [ppuLoop_due _ _ h, ppuLoop_due _ _ h]
      exact ih k _ (ppuTransition_fuel h hf) (ppuTransition_fuel h hg)

/-- Running the loop before the later cycles arrive changes nothing. -/
theorem ppuLoop_addAcc (n f g : Nat) (s : State) (hf : s.ppu.acc / 80 ≤ f) (hg : (s.ppu.acc + n) / 80 ≤ g) :
    ppuLoop g ((ppuLoop f s).addAcc n) = ppuLoop g (s.addAcc n) := by
  induction f generalizing g s with
  | zero => rfl
  | succ k ih =>
    by_cases h : s.ppu.acc < s.ppu.mode.length
    · rw [ppuLoop_done _ _ h]
    · have h' : ¬ (s.addAcc n).ppu.acc < (s.addAcc n).ppu.mode.length := by simp; omega
      obtain ⟨j, rfl⟩ := fuel_pos h' hg
      have hf' := ppuTransition_fuel h hf
      have hg' : ((ppuTransition s).ppu.acc + n) / 80 ≤ j := by
        have := s.ppu.mode.length_ge
        rw [ppuTransition_acc]; omega
      rw [ppuLoop_due k s h, ppuLoop_due j _ h', ppuTransition_addAcc n s (by omega), ← ih j _ hf' hg']
      have hr : ((ppuLoop k (ppuTransition s)).ppu.acc + n) / 80 ≤ j := by
        have hle : ∀ (f : Nat) (u : State), (ppuLoop f u).ppu.acc ≤ u.ppu.acc := by
          intro f
          induction f with
          | zero => intro u; exact le_refl _
          | succ f ihf =>
            intro u
            by_cases hu : u.ppu.acc < u.ppu.mode.length
            · rw [ppuLoop_done _ _ hu]
            · rw [ppuLoop_due _ _ hu]
              exact (ihf _).trans (by rw [ppuTransition_acc]; omega)
        have := hle k (ppuTransition s)
        omega
      exact ppuLoop_fuel (j + 1) j _ (by show _ / 80 ≤ _; simp only [addAcc_ppu]; omega) hr

/-- The legal states of the PPU but for the accumulator's bound, with the display on. -/
structure PpuLegal (p : Ppu) : Prop where
  lyBound : p.ly.toNat ≤ 153
  vblankLines : p.mode = .vblank ↔ 144 ≤ p.ly.toNat
  on : lcdcBit p 7 = true
  vram : Memory.array 0x2000 p.vram
  oam : Memory.array 160 p.oam
  frameRows : p.frame.length = 144
  frameColumns : ∀ row ∈ p.frame, row.length = 160
  bgIndexColumns : p.bgIndex.length = 160
  objOwnedColumns : p.objOwned.length = 160

/-- The PPU invariant, with the display on, is legality and the accumulator's bound. -/
theorem ppuInv_of_legal {p : Ppu} (h : PpuLegal p) (ha : p.acc < p.mode.length) : PpuInv p where
  accBound := ha
  lyBound := h.lyBound
  vblankLines := fun _ => h.vblankLines
  displayOff := fun hoff => absurd (h.on.symm.trans hoff) (by decide)
  vram := h.vram
  oam := h.oam
  frameRows := h.frameRows
  frameColumns := h.frameColumns
  bgIndexColumns := h.bgIndexColumns
  objOwnedColumns := h.objOwnedColumns

theorem PpuInv.legal {p : Ppu} (h : PpuInv p) (hon : lcdcBit p 7 = true) : PpuLegal p where
  lyBound := h.lyBound
  vblankLines := h.vblankLines hon
  on := hon
  vram := h.vram
  oam := h.oam
  frameRows := h.frameRows
  frameColumns := h.frameColumns
  bgIndexColumns := h.bgIndexColumns
  objOwnedColumns := h.objOwnedColumns

theorem PpuLegal.setAcc {p : Ppu} (h : PpuLegal p) (n : Nat) : PpuLegal { p with acc := n } :=
  ⟨h.lyBound, h.vblankLines, h.on, h.vram, h.oam, h.frameRows, h.frameColumns, h.bgIndexColumns, h.objOwnedColumns⟩

/-- A change of mode, LY, the coincidence bit and frameReady to a legal pair of mode and line. -/
theorem PpuLegal.setLine {p : Ppu} (h : PpuLegal p) (m : PpuMode) (y : Byte) (c r : Bool) (hy : y.toNat ≤ 153)
    (hm : m = .vblank ↔ 144 ≤ y.toNat) : PpuLegal { p with mode := m, ly := y, coincidence := c, frameReady := r } :=
  ⟨hy, hm, h.on, h.vram, h.oam, h.frameRows, h.frameColumns, h.bgIndexColumns, h.objOwnedColumns⟩

theorem PpuLegal.render {p : Ppu} (h : PpuLegal p) (ly : Nat) : PpuLegal (renderLine ly p) := by
  refine ⟨h.lyBound, h.vblankLines, h.on, h.vram, h.oam, ?_, ?_, ?_, ?_⟩
  · simp [renderLine, h.frameRows]
  · intro row hr
    rcases List.mem_or_eq_of_mem_set hr with hr | rfl
    · exact h.frameColumns row hr
    · simp
  · simp [renderLine]
  · unfold renderLine
    dsimp only
    split
    · simp
    · exact h.objOwnedColumns

theorem notVBlank_line {p : Ppu} (h : PpuLegal p) (hm : p.mode ≠ .vblank) : p.ly.toNat < 144 := by
  by_contra hc
  exact hm (h.vblankLines.2 (by omega))

/-- A transition keeps the PPU legal. -/
theorem ppuTransition_legal {s : State} (h : PpuLegal s.ppu) : PpuLegal (ppuTransition s).ppu := by
  have h0 : PpuLegal s.offAcc.ppu := h.setAcc _
  have hy : s.offAcc.ppu.ly = s.ppu.ly := rfl
  rw [ppuTransition_ppu]
  cases hm : s.ppu.mode with
  | oam =>
    have hl := notVBlank_line h (by simp [hm])
    exact h0.setLine .vram s.ppu.ly s.ppu.coincidence s.ppu.frameReady h.lyBound (by simp; omega)
  | vram =>
    have hl := notVBlank_line h (by simp [hm])
    exact (h0.setLine .hblank s.ppu.ly s.ppu.coincidence s.ppu.frameReady h.lyBound (by simp; omega)).render _
  | hblank =>
    have hl := notVBlank_line h (by simp [hm])
    have hly : (s.ppu.ly + 1).toNat = s.ppu.ly.toNat + 1 := by rw [BitVec.toNat_add]; simp; omega
    dsimp only
    rw [endHBlankLine_ppu]
    split
    · rename_i h144
      rw [hy] at h144
      exact h0.setLine .vblank (s.ppu.ly + 1) _ true (by omega) (by rw [h144]; simp)
    · rename_i h144
      rw [hy] at h144
      have : s.ppu.ly.toNat + 1 ≠ 144 := fun e => h144 (BitVec.eq_of_toNat_eq (hly.trans e))
      exact h0.setLine .oam (s.ppu.ly + 1) _ s.ppu.frameReady (by omega) (by simp; omega)
  | vblank =>
    have hl := h.vblankLines.1 hm
    have hb := h.lyBound
    have hly : (s.ppu.ly + 1).toNat = s.ppu.ly.toNat + 1 := by rw [BitVec.toNat_add]; simp; omega
    dsimp only
    rw [endVBlankLine_ppu]
    split
    · exact h0.setLine .oam 0 _ s.ppu.frameReady (by decide) (by simp)
    · rename_i h153
      rw [hy] at h153
      have : s.ppu.ly.toNat ≠ 153 := fun e => h153 (BitVec.eq_of_toNat_eq e)
      exact h0.setLine s.ppu.mode (s.ppu.ly + 1) _ s.ppu.frameReady (by omega) (by rw [hm]; simp; omega)

theorem ppuLoop_legal (f : Nat) {s : State} (h : PpuLegal s.ppu) : PpuLegal (ppuLoop f s).ppu := by
  induction f generalizing s with
  | zero => exact h
  | succ n ih =>
    unfold ppuLoop
    split
    · exact h
    · exact ih (ppuTransition_legal h)

/-- A PPU step keeps the PPU's invariant. -/
theorem ppuStep_inv (n : Nat) {s : State} (h : PpuInv s.ppu) : PpuInv (ppuStep n s).ppu := by
  unfold ppuStep
  split
  · rename_i hon
    exact ppuInv_of_legal (ppuLoop_legal _ ((h.legal hon).setAcc _)) (ppuLoop_acc_lt _ _ (le_refl _))
  · exact h

end Sys2Proof.Machine
end

