-- ==== Sys2Proof/Laws/Inv.lean ====
section
/-! SUPPORT. The invariant of Safety.lean under each operation an iteration is made of: a register change, a byte store, an
instruction, a device step and a dispatch. -/

namespace Sys2Proof.Machine

theorem MidInv.setCpu {s : State} (h : MidInv s) (c : Cpu) (hf : c.f &&& 0x0F = 0) : MidInv { s with cpu := c } :=
  ⟨hf, h.controllerIdle, h.divCounter, h.timerOff, h.ppu, h.cart, h.sound, h.wram, h.hram, h.noSamples, h.cfg⟩

theorem MidInv.setPpu {s : State} (h : MidInv s) (p : Ppu) (hp : PpuInv p) : MidInv { s with ppu := p } :=
  ⟨h.fLowNibble, h.controllerIdle, h.divCounter, h.timerOff, hp, h.cart, h.sound, h.wram, h.hram, h.noSamples, h.cfg⟩

theorem MidInv.setCart {s : State} (h : MidInv s) (c : Cart) (hc : CartInv c) : MidInv { s with cart := c } :=
  ⟨h.fLowNibble, h.controllerIdle, h.divCounter, h.timerOff, h.ppu, hc, h.sound, h.wram, h.hram, h.noSamples, h.cfg⟩

theorem MidInv.request {s : State} (h : MidInv s) (b : IntSource) : MidInv (request b s) :=
  ⟨h.fLowNibble, h.controllerIdle, h.divCounter, h.timerOff, h.ppu, h.cart, h.sound, h.wram, h.hram, h.noSamples, h.cfg⟩

theorem MidInv.requestIf {s : State} (h : MidInv s) (p : Bool) (b : IntSource) : MidInv (requestIf p b s) := by
  unfold Machine.requestIf
  split
  · exact h.request b
  · exact h

theorem PpuInv.setVram {p : Ppu} (h : PpuInv p) (m : Memory) (hm : Memory.array 0x2000 m) : PpuInv { p with vram := m } :=
  ⟨h.accBound, h.lyBound, h.vblankLines, h.displayOff, hm, h.oam, h.frameRows, h.frameColumns, h.bgIndexColumns, h.objOwnedColumns⟩

theorem PpuInv.setOam {p : Ppu} (h : PpuInv p) (m : Memory) (hm : Memory.array 160 m) : PpuInv { p with oam := m } :=
  ⟨h.accBound, h.lyBound, h.vblankLines, h.displayOff, h.vram, hm, h.frameRows, h.frameColumns, h.bgIndexColumns, h.objOwnedColumns⟩

/-- A change of mode, line and accumulator to what display disable and enable set. -/
theorem PpuInv.setDisplay {p : Ppu} (h : PpuInv p) (v : Byte) (m : PpuMode) (c : Bool)
    (hm : m = .hblank ∨ (m = .oam ∧ bitOf v 7 = true)) :
    PpuInv { p with lcdc := v, mode := m, acc := 0, ly := 0, coincidence := c } := by
  refine ⟨?_, (by decide : (0 : Byte).toNat ≤ 153), ?_, ?_, h.vram, h.oam, h.frameRows, h.frameColumns, h.bgIndexColumns, h.objOwnedColumns⟩
  · have := m.length_ge
    show 0 < m.length
    omega
  · intro _
    rcases hm with rfl | ⟨rfl, -⟩ <;> simp
  · intro hoff
    rcases hm with rfl | ⟨rfl, hv⟩
    · exact ⟨rfl, rfl, rfl⟩
    · exact absurd (hv.symm.trans hoff) (by decide)

theorem displayOn_eq (s : State) : displayOn s = lcdcBit s.ppu 7 := rfl

theorem lcdcWrite_inv {s : State} (h : MidInv s) (v : Byte) : MidInv (lcdcWrite v s) := by
  unfold lcdcWrite
  dsimp only
  split
  · rename_i hon hoff
    have h1 : MidInv (setLY 0 { s with ppu.lcdc := v, ppu.mode := .hblank, ppu.acc := 0 }) :=
      MidInv.requestIf (h.setPpu _ (h.ppu.setDisplay v .hblank _ (.inl rfl))) _ _
    have h2 : ({ setLY 0 { s with ppu.lcdc := v } with
        ppu := { (setLY 0 { s with ppu.lcdc := v }).ppu with mode := .hblank, acc := 0 } } : State) =
        setLY 0 { s with ppu.lcdc := v, ppu.mode := .hblank, ppu.acc := 0 } := by
      unfold setLY requestIf
      have e1 : statEnable ({ s with ppu.lcdc := v, ppu.mode := .hblank, ppu.acc := 0 } : State) 6 = statEnable s 6 := rfl
      have e2 : statEnable ({ s with ppu.lcdc := v } : State) 6 = statEnable s 6 := rfl
      rw [e1, e2]
      dsimp only
      split <;> rfl
    rw [h2]
    exact h1
  · rename_i hoff hon
    exact MidInv.requestIf (h.setPpu _ (h.ppu.setDisplay v .oam _ (.inr ⟨rfl, hon⟩))) _ _
  · rename_i hon hv
    have hp := h.ppu
    refine h.setPpu _ ⟨hp.accBound, hp.lyBound, fun _ => hp.vblankLines hon, fun hoff => ?_, hp.vram, hp.oam, hp.frameRows,
      hp.frameColumns, hp.bgIndexColumns, hp.objOwnedColumns⟩
    exact absurd (hv.symm.trans hoff) (by decide)
  · rename_i hoff hv
    have hp := h.ppu
    refine h.setPpu _ ⟨hp.accBound, hp.lyBound, fun hon => ?_, fun _ => hp.displayOff hoff, hp.vram, hp.oam, hp.frameRows,
      hp.frameColumns, hp.bgIndexColumns, hp.objOwnedColumns⟩
    exact absurd (hv.symm.trans hon) (by decide)

theorem oamWrite_inv {s : State} (h : MidInv s) (off : Nat) (v : Byte) (ho : off < 160) : MidInv (oamWrite off v s) := by
  unfold oamWrite
  split
  · exact h
  · exact h.setPpu _ (h.ppu.setOam _ (Memory.array_write off v ho h.ppu.oam))

theorem dmaFold_inv (v : Byte) (l : List Nat) (hl : ∀ i ∈ l, i < 160) {s : State} (h : MidInv s) :
    MidInv (l.foldl (dmaByte v) s) := by
  induction l generalizing s with
  | nil => exact h
  | cons i l ih =>
    rw [List.foldl_cons]
    exact ih (fun j hj => hl j (by simp [hj])) (oamWrite_inv h i _ (hl i (by simp)))

theorem dmaWrite_inv {s : State} (h : MidInv s) (v : Byte) : MidInv (dmaWrite v s) := by
  refine dmaFold_inv v _ (fun i hi => List.mem_range.1 hi) (h.setPpu { s.ppu with dma := v } ?_)
  have hp := h.ppu
  exact ⟨hp.accBound, hp.lyBound, hp.vblankLines, hp.displayOff, hp.vram, hp.oam, hp.frameRows, hp.frameColumns, hp.bgIndexColumns,
    hp.objOwnedColumns⟩

/-- A change of PPU registers that no part of the invariant reads. -/
theorem PpuInv.of_eq {p q : Ppu} (h : PpuInv p) (h1 : q.acc = p.acc) (h2 : q.mode = p.mode) (h3 : q.ly = p.ly)
    (h4 : q.lcdc = p.lcdc) (h5 : q.vram = p.vram) (h6 : q.oam = p.oam) (h7 : q.frame = p.frame) (h8 : q.bgIndex = p.bgIndex)
    (h9 : q.objOwned = p.objOwned) : PpuInv q := by
  have hb : lcdcBit q 7 = lcdcBit p 7 := by unfold lcdcBit; rw [h4]
  exact ⟨by rw [h1, h2]; exact h.accBound, by rw [h3]; exact h.lyBound, by rw [hb, h2, h3]; exact h.vblankLines,
    by rw [hb, h1, h2, h3]; exact h.displayOff, by rw [h5]; exact h.vram, by rw [h6]; exact h.oam, by rw [h7]; exact h.frameRows,
    by rw [h7]; exact h.frameColumns, by rw [h8]; exact h.bgIndexColumns, by rw [h9]; exact h.objOwnedColumns⟩

theorem tacWrite_inv {s : State} (h : MidInv s) (v : Byte) : MidInv (tacWrite v s) := by
  refine ⟨h.fLowNibble, h.controllerIdle, h.divCounter, ?_, h.ppu, h.cart, h.sound, h.wram, h.hram, h.noSamples, h.cfg⟩
  intro hoff
  have hb : bitOf v 2 = false := by
    have e : timerEnabled (v.setWidth 3) = bitOf v 2 := by
      unfold timerEnabled bitOf
      rw [BitVec.getLsbD_setWidth]
      rfl
    rw [← e]; exact hoff
  show (if bitOf v 2 then s.timer.timaCounter else 0) = 0
  rw [hb]; rfl

theorem ioWrite_inv {s : State} (h : MidInv s) (v : Byte) (r : IoReg) : MidInv (ioWrite v s r) := by
  cases r with
  | joyp => exact ⟨h.fLowNibble, h.controllerIdle, h.divCounter, h.timerOff, h.ppu, h.cart, h.sound, h.wram, h.hram, h.noSamples, h.cfg⟩
  | div =>
    exact ⟨h.fLowNibble, h.controllerIdle, (by decide : (0 : Nat) < 256), h.timerOff, h.ppu, h.cart, h.sound, h.wram, h.hram,
      h.noSamples, h.cfg⟩
  | tima => exact ⟨h.fLowNibble, h.controllerIdle, h.divCounter, h.timerOff, h.ppu, h.cart, h.sound, h.wram, h.hram, h.noSamples, h.cfg⟩
  | tma => exact ⟨h.fLowNibble, h.controllerIdle, h.divCounter, h.timerOff, h.ppu, h.cart, h.sound, h.wram, h.hram, h.noSamples, h.cfg⟩
  | tac => exact tacWrite_inv h v
  | iflag => exact ⟨h.fLowNibble, h.controllerIdle, h.divCounter, h.timerOff, h.ppu, h.cart, h.sound, h.wram, h.hram, h.noSamples, h.cfg⟩
  | sound a =>
    exact ⟨h.fLowNibble, h.controllerIdle, h.divCounter, h.timerOff, h.ppu, h.cart, Memory.wf_write _ _ _ h.sound, h.wram, h.hram,
      h.noSamples, h.cfg⟩
  | lcdc => exact lcdcWrite_inv h v
  | dma => exact dmaWrite_inv h v
  | ly => exact h
  | unlisted => exact h
  | _ => exact h.setPpu _ (h.ppu.of_eq rfl rfl rfl rfl rfl rfl rfl rfl rfl)

/-- MBC1's low bank bits replaced: the bank stays in 1..0x7F with a nonzero low part. -/
theorem mbc1_low (b : BitVec 9) (n : Nat) (hn : 1 ≤ n) (hn' : n < 0x20) :
    1 ≤ ((b &&& 0x60) ||| BitVec.ofNat 9 n).toNat % 0x20 ∧ ((b &&& 0x60) ||| BitVec.ofNat 9 n).toNat < 0x80 := by
  revert b
  interval_cases n <;> decide

/-- MBC1's high bank bits replaced. -/
theorem mbc1_high (b : BitVec 9) (n : Nat) (hn : n < 4) (hb : 1 ≤ b.toNat % 0x20) :
    1 ≤ (BitVec.ofNat 9 (n * 0x20) ||| (b &&& 0x1F)).toNat % 0x20 ∧ (BitVec.ofNat 9 (n * 0x20) ||| (b &&& 0x1F)).toNat < 0x80 := by
  revert b
  interval_cases n <;> decide

theorem zeroToOne_pos (n : Nat) : 1 ≤ zeroToOne n := by
  unfold zeroToOne; split <;> omega

theorem zeroToOne_lt {n m : Nat} (hn : n < m) (hm : 1 < m) : zeroToOne n < m := by
  unfold zeroToOne; split <;> omega

theorem ofNat4_lt (n : Nat) (h : n < 4) : (BitVec.ofNat 4 n).toNat < 4 := by
  rw [BitVec.toNat_ofNat]; omega

/-- A bank-register write keeps the bank registers legal. -/
theorem mbcWrite_banks (c : Cart) (a : Nat) (v : Byte) (h : bankBounds c) : bankBounds (mbcWrite c a v) := by
  have hv := v.isLt
  unfold bankBounds at h
  unfold mbcWrite
  cases hk : c.kind with
  | none => simp only [hk] at h ⊢; unfold bankBounds; simp only [hk]; exact h
  | mbc1 =>
    simp only [hk] at h ⊢
    unfold mbc1Write
    split_ifs <;> unfold bankBounds <;> simp only [hk]
    · exact h
    · have := mbc1_low c.romBank (zeroToOne (v.toNat % 0x20)) (zeroToOne_pos _) (zeroToOne_lt (Nat.mod_lt _ (by decide)) (by decide))
      exact ⟨this.1, this.2, h.2.2⟩
    · exact ⟨h.1, h.2.1, ofNat4_lt _ (Nat.mod_lt _ (by decide))⟩
    · have := mbc1_high c.romBank (v.toNat % 4) (Nat.mod_lt _ (by decide)) h.1
      exact ⟨this.1, this.2, h.2.2⟩
    · exact h
  | mbc2 =>
    simp only [hk] at h ⊢
    unfold mbc2Write
    split_ifs <;> unfold bankBounds <;> simp only [hk]
    · exact h
    · have h1 := zeroToOne_pos (lowNibble v)
      have h2 : zeroToOne (lowNibble v) < 0x10 := zeroToOne_lt (Nat.mod_lt _ (by decide)) (by decide)
      rw [BitVec.toNat_ofNat]
      exact ⟨by omega, by omega, h.2.2⟩
    · exact h
  | mbc3 =>
    simp only [hk] at h ⊢
    unfold mbc3Write
    split_ifs <;> unfold bankBounds <;> simp only [hk]
    · exact h
    · have h1 := zeroToOne_pos (v.toNat % 0x80)
      have h2 : zeroToOne (v.toNat % 0x80) < 0x80 := zeroToOne_lt (Nat.mod_lt _ (by decide)) (by decide)
      rw [BitVec.toNat_ofNat]
      exact ⟨by omega, by omega, h.2.2⟩
    · exact ⟨h.1, h.2.1, ofNat4_lt _ (Nat.mod_lt _ (by decide))⟩
    · exact h
  | mbc5 =>
    simp only [hk] at h ⊢
    unfold mbc5Write
    split_ifs <;> (unfold bankBounds; simp only [hk])

theorem mbcWrite_inv {c : Cart} (h : CartInv c) (a : Nat) (v : Byte) : CartInv (mbcWrite c a v) := by
  refine ⟨mbcWrite_banks c a v h.banks, ?_, ?_⟩
  · rw [mbcWrite_keeps]; exact h.rom
  · rw [mbcWrite_keeps]; exact h.ram

/-- An access to external RAM reaches a key of the array (R270). -/
theorem extKey_lt {c : Cart} (h : CartInv c) {off k : Nat} (hk : extKey c off = some k) : k < c.ramLen := by
  have hb := h.banks
  unfold bankBounds at hb
  unfold extKey at hk
  cases hc : c.kind with
  | mbc2 =>
    simp only [hc] at hk hb
    split at hk
    · have := hb.2.2
      simp only [Option.some.injEq] at hk
      omega
    · simp at hk
  | _ => simp only [hc] at hk; (split_ifs at hk; simp_all)

theorem extWrite_inv {c : Cart} (h : CartInv c) (off : Nat) (v : Byte) : CartInv (extWrite c off v) := by
  unfold extWrite
  split
  · exact h
  · rename_i k hk
    have hb := h.banks
    split <;> exact ⟨hb, h.rom, Memory.array_write k _ (extKey_lt h hk) h.ram⟩

theorem regionOf_offsets (a : Word) :
    match regionOf a.toNat with
    | .vram o => o < 0x2000
    | .wram o => o < 0x2000
    | .oam o => o < 160
    | .hram o => o < 127
    | _ => True := by
  cases h : regionOf a.toNat with
  | vram o => have := (regionOf_vram_iff _ _).1 h; dsimp only; omega
  | wram o => have := (regionOf_wram_iff _ _).1 h; dsimp only; omega
  | oam o => have := (regionOf_oam_iff _ _).1 h; dsimp only; omega
  | hram o => have := (regionOf_hram_iff _ _).1 h; dsimp only; omega
  | _ => trivial

/-- A byte store keeps the invariant. -/
theorem MidInv.store {s : State} (h : MidInv s) (a : Word) (v : Byte) : MidInv (write8 a v s) := by
  have ho := regionOf_offsets a
  unfold write8
  cases hr : regionOf a.toNat with
  | rom0 o => exact h.setCart _ (mbcWrite_inv h.cart o v)
  | romN o => exact h.setCart _ (mbcWrite_inv h.cart (0x4000 + o) v)
  | vram o =>
    rw [hr] at ho
    unfold regionWrite
    dsimp only
    split
    · exact h
    · exact h.setPpu _ (h.ppu.setVram _ (Memory.array_write o v ho h.ppu.vram))
  | ext o => exact h.setCart _ (extWrite_inv h.cart o v)
  | wram o =>
    rw [hr] at ho
    exact ⟨h.fLowNibble, h.controllerIdle, h.divCounter, h.timerOff, h.ppu, h.cart, h.sound, Memory.array_write o v ho h.wram, h.hram,
      h.noSamples, h.cfg⟩
  | oam o => rw [hr] at ho; exact oamWrite_inv h o v ho
  | unusable => exact h
  | io r => exact ioWrite_inv h v r
  | hram o =>
    rw [hr] at ho
    exact ⟨h.fLowNibble, h.controllerIdle, h.divCounter, h.timerOff, h.ppu, h.cart, h.sound, h.wram, Memory.array_write o v ho h.hram,
      h.noSamples, h.cfg⟩
  | ie => exact ⟨h.fLowNibble, h.controllerIdle, h.divCounter, h.timerOff, h.ppu, h.cart, h.sound, h.wram, h.hram, h.noSamples, h.cfg⟩

/-- Whatever an instruction does keeps the invariant. -/
theorem MidInv.effects {s t : State} (h : MidInv s) (he : Effects s t) : MidInv t := by
  induction he with
  | refl => exact h
  | cpu _ c hf _ ih => exact ih.setCpu c (by rcases hf with hf | hf; exacts [hf ▸ ih.fLowNibble, hf])
  | store _ a v ih => exact ih.store a v

/-- A device step keeps the invariant, and leaves the TIMA sub-counter below its period. -/
theorem MidInv.mmuStep {s : State} (h : MidInv s) (n : Nat) :
    MidInv (mmuStep n s) ∧
      (timerEnabled (Machine.mmuStep n s).timer.tac = true →
        (Machine.mmuStep n s).timer.timaCounter < timerPeriod (Machine.mmuStep n s).timer.tac) := by
  have hd := mmuStep_deviceOnly n s
  have hp : (Machine.mmuStep n s).ppu = (ppuStep n s).ppu := timerStep_ppu n _
  have htac : (Machine.mmuStep n s).timer.tac = s.timer.tac := hd.tac
  have hticks : ∀ (k : Nat) (u : State), (timaTicks k u).timer.divCounter = u.timer.divCounter ∧
      (timaTicks k u).timer.timaCounter = u.timer.timaCounter := by
    intro k
    induction k with
    | zero => exact fun u => ⟨rfl, rfl⟩
    | succ k ih =>
      intro u
      have hu : (timaTick u).timer.divCounter = u.timer.divCounter ∧ (timaTick u).timer.timaCounter = u.timer.timaCounter := by
        unfold timaTick; split <;> exact ⟨rfl, rfl⟩
      rw [timaTicks, (ih _).1, (ih _).2]
      exact hu
  have htimer : (Machine.mmuStep n s).timer.divCounter < 256 ∧
      (timerEnabled s.timer.tac = false → (Machine.mmuStep n s).timer.timaCounter = 0) ∧
      (timerEnabled s.timer.tac = true → (Machine.mmuStep n s).timer.timaCounter < timerPeriod s.timer.tac) := by
    show (timerStep n (ppuStep n s)).timer.divCounter < 256 ∧ (_ → (timerStep n (ppuStep n s)).timer.timaCounter = 0) ∧
      (_ → (timerStep n (ppuStep n s)).timer.timaCounter < _)
    have hq : (ppuStep n s).timer = s.timer := ppuStep_timer n s
    unfold timerStep timaStep
    have htac' : (divStep n (ppuStep n s)).timer.tac = s.timer.tac := by
      show (ppuStep n s).timer.tac = _
      rw [hq]
    rw [htac']
    split
    · rename_i hon
      rw [(hticks _ _).1, (hticks _ _).2]
      refine ⟨Nat.mod_lt _ (by decide), fun hoff => absurd (hon.symm.trans hoff) (by decide), fun _ => Nat.mod_lt _ ?_⟩
      unfold timerPeriod
      split <;> decide
    · rename_i hoff
      refine ⟨Nat.mod_lt _ (by decide), fun h0 => ?_, fun h1 => absurd h1 hoff⟩
      show (ppuStep n s).timer.timaCounter = 0
      rw [hq]
      exact h.timerOff h0
  refine ⟨⟨?_, ?_, htimer.1, ?_, ?_, ?_, ?_, ?_, ?_, ?_, ?_⟩, ?_⟩
  · rw [hd.cpu]; exact h.fLowNibble
  · rw [hd.phase]; exact h.controllerIdle
  · rw [htac]; exact htimer.2.1
  · rw [hp]; exact ppuStep_inv n h.ppu
  · rw [hd.cart]; exact h.cart
  · rw [hd.sound]; exact h.sound
  · rw [hd.wram]; exact h.wram
  · rw [hd.hram]; exact h.hram
  · rw [hd.sched]; exact h.noSamples
  · rw [hd.cfg]; exact h.cfg
  · rw [htac]; exact htimer.2.2

/-- Serving an interrupt keeps the invariant. -/
theorem MidInv.dispatch {s : State} (h : MidInv s) (b : IntSource) (hi : s.cpu.ime = true) : MidInv (dispatch b s) := by
  rw [dispatch_taken b s hi]
  have h0 : MidInv { s with
      ic := { s.ic with reqs := s.ic.reqs &&& ~~~ b.mask, phase := .idle }
      cpu := { s.cpu with ime := false, halted := false, sp := s.cpu.sp - 2 } } :=
    ⟨h.fLowNibble, rfl, h.divCounter, h.timerOff, h.ppu, h.cart, h.sound, h.wram, h.hram, h.noSamples, h.cfg⟩
  have h1 := (h0.store (s.cpu.sp - 2) (loByte s.cpu.pc)).store (s.cpu.sp - 2 + 1) (hiByte s.cpu.pc)
  exact h1.setCpu _ h1.fLowNibble

theorem MidInv.setSched {s : State} (h : MidInv s) (c : Sched) (hc : c.samples = []) : MidInv { s with sched := c } :=
  ⟨h.fLowNibble, h.controllerIdle, h.divCounter, h.timerOff, h.ppu, h.cart, h.sound, h.wram, h.hram, hc, h.cfg⟩

end Sys2Proof.Machine
end

