-- ==== Sys2Proof/Laws/Timer.lean ====
section
/-! SUPPORT. The timer's step in closed form, and what its ticks leave alone. -/

namespace Sys2Proof.Machine

theorem timaTicks_add (j k : Nat) (s : State) : timaTicks k (timaTicks j s) = timaTicks (j + k) s := by
  induction j generalizing s with
  | zero => rw [Nat.zero_add]; rfl
  | succ j ih => rw [show j + 1 + k = j + k + 1 by omega, timaTicks, timaTicks, ih]

/-- The state with DIV and the two sub-counters set. -/
def State.setCounters (d : Byte) (c t : Nat) (s : State) : State :=
  { s with timer := { s.timer with div := d, divCounter := c, timaCounter := t } }

theorem timaTick_setCounters (d : Byte) (c t : Nat) (s : State) :
    timaTick (s.setCounters d c t) = (timaTick s).setCounters d c t := by
  unfold timaTick
  have h : (s.setCounters d c t).timer.tima = s.timer.tima := rfl
  rw [h]
  by_cases hf : s.timer.tima = 0xFF
  · rw [if_pos hf, if_pos hf]; rfl
  · rw [if_neg hf, if_neg hf]; rfl

theorem timaTicks_setCounters (d : Byte) (c t k : Nat) (s : State) :
    timaTicks k (s.setCounters d c t) = (timaTicks k s).setCounters d c t := by
  induction k generalizing s with
  | zero => rfl
  | succ k ih => rw [timaTicks, timaTicks, timaTick_setCounters, ih]

/-- Ticks change TIMA, IF and a HALT only. -/
theorem timaTicks_timer (k : Nat) (s : State) :
    (timaTicks k s).timer = { s.timer with tima := (timaTicks k s).timer.tima } := by
  induction k generalizing s with
  | zero => rfl
  | succ k ih =>
    have h : (timaTick s).timer = { s.timer with tima := (timaTick s).timer.tima } := by
      unfold timaTick; split <;> rfl
    rw [timaTicks, ih, h]

/-- `timer.step(n)` in closed form (R760). -/
theorem timerStep_eq (n : Nat) (s : State) :
    timerStep n s =
      if timerEnabled s.timer.tac then
        (timaTicks ((s.timer.timaCounter + n) / timerPeriod s.timer.tac) s).setCounters
          (s.timer.div + BitVec.ofNat 8 ((s.timer.divCounter + n) / 256)) ((s.timer.divCounter + n) % 256)
          ((s.timer.timaCounter + n) % timerPeriod s.timer.tac)
      else
        s.setCounters (s.timer.div + BitVec.ofNat 8 ((s.timer.divCounter + n) / 256)) ((s.timer.divCounter + n) % 256)
          s.timer.timaCounter := by
  unfold timerStep timaStep
  have h : (divStep n s).timer.tac = s.timer.tac := rfl
  rw [h]
  by_cases hon : timerEnabled s.timer.tac = true
  · rw [if_pos hon, if_pos hon, ← timaTicks_setCounters]; rfl
  · rw [if_neg hon, if_neg hon]; rfl

theorem timerPeriod_pos (tac : BitVec 3) : 0 < timerPeriod tac := by
  unfold timerPeriod
  split <;> decide

end Sys2Proof.Machine
end

