-- ==== Sys2Proof/Tests/Slice0.lean ====
section
/-! SUPPORT. The model's own tests: well-formedness, every row of the opcode table decoded from its own bytes, the spec's instruction
vectors, the devices, and for every obligation with hypotheses a state that meets them. Expected values are the spec's. -/

namespace Sys2Proof.Tests

open Sys2Proof Sys2Proof.Machine

/-- The one ill-formed term, the bare prefix row (R605), is refused; its neighbours are not. -/
theorem test_wellFormed : Instr.prefixCb.wellFormed = false ∧ Instr.rlcB.wellFormed = true ∧ Instr.stop.wellFormed = true := by decide

/-- The table words of the three widths (R326): one byte, a CB row first byte high, an operand row with its operand. -/
theorem test_tableWord : decodeTableWord 8 0x76 = some .halt ∧ decodeTableWord 16 0xCB7C = some .bit7H ∧
    decodeTableWord 8 0x21 = some (.ldHlD16 0) ∧ decodeTableWord 16 0x3E = some (.ldAD8 0) ∧
    decodeTableWord 24 0x1234CD = some (.callA16 0x1234) := by decide

/-- Truncated sequences have no instruction (R321), and 0xCB alone is the prefix row. -/
theorem test_decode_short : decode .two [] = .error .empty ∧ decode .two [0xC3, 0x00] = .error .truncated ∧
    decode .two [0x10] = .error .truncated ∧ decode .one [0x10] = .ok (.stop, []) ∧ decode .two [0xCB] = .ok (.prefixCb, []) := by
  refine ⟨rfl, rfl, rfl, rfl, rfl⟩

/-- The primary table, opcodes 0x00 to 0x0F, from the opcode maps (R314, R318); operand bytes 0x34, 0x12. -/
theorem test_decode_primary_0 :
    decodeBytes 0x00 0x34 0x12 = .nop ∧ decodeBytes 0x01 0x34 0x12 = (.ldBcD16 0x1234) ∧
    decodeBytes 0x02 0x34 0x12 = .ldAtBcA ∧ decodeBytes 0x03 0x34 0x12 = .incBc ∧
    decodeBytes 0x04 0x34 0x12 = .incB ∧ decodeBytes 0x05 0x34 0x12 = .decB ∧
    decodeBytes 0x06 0x34 0x12 = (.ldBD8 0x34) ∧ decodeBytes 0x07 0x34 0x12 = .rlca ∧
    decodeBytes 0x08 0x34 0x12 = (.ldAtA16Sp 0x1234) ∧ decodeBytes 0x09 0x34 0x12 = .addHlBc ∧
    decodeBytes 0x0A 0x34 0x12 = .ldAAtBc ∧ decodeBytes 0x0B 0x34 0x12 = .decBc ∧
    decodeBytes 0x0C 0x34 0x12 = .incC ∧ decodeBytes 0x0D 0x34 0x12 = .decC ∧
    decodeBytes 0x0E 0x34 0x12 = (.ldCD8 0x34) ∧ decodeBytes 0x0F 0x34 0x12 = .rrca := by
  refine ⟨rfl, rfl, rfl, rfl, rfl, rfl, rfl, rfl, rfl, rfl, rfl, rfl, rfl, rfl, rfl, rfl⟩

/-- The primary table, opcodes 0x10 to 0x1F, from the opcode maps (R314, R318); operand bytes 0x34, 0x12. -/
theorem test_decode_primary_1 :
    decodeBytes 0x10 0x34 0x12 = .stop ∧ decodeBytes 0x11 0x34 0x12 = (.ldDeD16 0x1234) ∧
    decodeBytes 0x12 0x34 0x12 = .ldAtDeA ∧ decodeBytes 0x13 0x34 0x12 = .incDe ∧
    decodeBytes 0x14 0x34 0x12 = .incD ∧ decodeBytes 0x15 0x34 0x12 = .decD ∧
    decodeBytes 0x16 0x34 0x12 = (.ldDD8 0x34) ∧ decodeBytes 0x17 0x34 0x12 = .rla ∧
    decodeBytes 0x18 0x34 0x12 = (.jrE8 0x34) ∧ decodeBytes 0x19 0x34 0x12 = .addHlDe ∧
    decodeBytes 0x1A 0x34 0x12 = .ldAAtDe ∧ decodeBytes 0x1B 0x34 0x12 = .decDe ∧
    decodeBytes 0x1C 0x34 0x12 = .incE ∧ decodeBytes 0x1D 0x34 0x12 = .decE ∧
    decodeBytes 0x1E 0x34 0x12 = (.ldED8 0x34) ∧ decodeBytes 0x1F 0x34 0x12 = .rra := by
  refine ⟨rfl, rfl, rfl, rfl, rfl, rfl, rfl, rfl, rfl, rfl, rfl, rfl, rfl, rfl, rfl, rfl⟩

/-- The primary table, opcodes 0x20 to 0x2F, from the opcode maps (R314, R318); operand bytes 0x34, 0x12. -/
theorem test_decode_primary_2 :
    decodeBytes 0x20 0x34 0x12 = (.jrNzE8 0x34) ∧ decodeBytes 0x21 0x34 0x12 = (.ldHlD16 0x1234) ∧
    decodeBytes 0x22 0x34 0x12 = .ldAtHliA ∧ decodeBytes 0x23 0x34 0x12 = .incHl ∧
    decodeBytes 0x24 0x34 0x12 = .incH ∧ decodeBytes 0x25 0x34 0x12 = .decH ∧
    decodeBytes 0x26 0x34 0x12 = (.ldHD8 0x34) ∧ decodeBytes 0x27 0x34 0x12 = .daa ∧
    decodeBytes 0x28 0x34 0x12 = (.jrZE8 0x34) ∧ decodeBytes 0x29 0x34 0x12 = .addHlHl ∧
    decodeBytes 0x2A 0x34 0x12 = .ldAAtHli ∧ decodeBytes 0x2B 0x34 0x12 = .decHl ∧
    decodeBytes 0x2C 0x34 0x12 = .incL ∧ decodeBytes 0x2D 0x34 0x12 = .decL ∧
    decodeBytes 0x2E 0x34 0x12 = (.ldLD8 0x34) ∧ decodeBytes 0x2F 0x34 0x12 = .cpl := by
  refine ⟨rfl, rfl, rfl, rfl, rfl, rfl, rfl, rfl, rfl, rfl, rfl, rfl, rfl, rfl, rfl, rfl⟩

/-- The primary table, opcodes 0x30 to 0x3F, from the opcode maps (R314, R318); operand bytes 0x34, 0x12. -/
theorem test_decode_primary_3 :
    decodeBytes 0x30 0x34 0x12 = (.jrNcE8 0x34) ∧ decodeBytes 0x31 0x34 0x12 = (.ldSpD16 0x1234) ∧
    decodeBytes 0x32 0x34 0x12 = .ldAtHldA ∧ decodeBytes 0x33 0x34 0x12 = .incSp ∧
    decodeBytes 0x34 0x34 0x12 = .incAtHl ∧ decodeBytes 0x35 0x34 0x12 = .decAtHl ∧
    decodeBytes 0x36 0x34 0x12 = (.ldAtHlD8 0x34) ∧ decodeBytes 0x37 0x34 0x12 = .scf ∧
    decodeBytes 0x38 0x34 0x12 = (.jrCE8 0x34) ∧ decodeBytes 0x39 0x34 0x12 = .addHlSp ∧
    decodeBytes 0x3A 0x34 0x12 = .ldAAtHld ∧ decodeBytes 0x3B 0x34 0x12 = .decSp ∧
    decodeBytes 0x3C 0x34 0x12 = .incA ∧ decodeBytes 0x3D 0x34 0x12 = .decA ∧
    decodeBytes 0x3E 0x34 0x12 = (.ldAD8 0x34) ∧ decodeBytes 0x3F 0x34 0x12 = .ccf := by
  refine ⟨rfl, rfl, rfl, rfl, rfl, rfl, rfl, rfl, rfl, rfl, rfl, rfl, rfl, rfl, rfl, rfl⟩

/-- The primary table, opcodes 0x40 to 0x4F, from the opcode maps (R314, R318); operand bytes 0x34, 0x12. -/
theorem test_decode_primary_4 :
    decodeBytes 0x40 0x34 0x12 = .ldBB ∧ decodeBytes 0x41 0x34 0x12 = .ldBC ∧
    decodeBytes 0x42 0x34 0x12 = .ldBD ∧ decodeBytes 0x43 0x34 0x12 = .ldBE ∧
    decodeBytes 0x44 0x34 0x12 = .ldBH ∧ decodeBytes 0x45 0x34 0x12 = .ldBL ∧
    decodeBytes 0x46 0x34 0x12 = .ldBAtHl ∧ decodeBytes 0x47 0x34 0x12 = .ldBA ∧
    decodeBytes 0x48 0x34 0x12 = .ldCB ∧ decodeBytes 0x49 0x34 0x12 = .ldCC ∧
    decodeBytes 0x4A 0x34 0x12 = .ldCD ∧ decodeBytes 0x4B 0x34 0x12 = .ldCE ∧
    decodeBytes 0x4C 0x34 0x12 = .ldCH ∧ decodeBytes 0x4D 0x34 0x12 = .ldCL ∧
    decodeBytes 0x4E 0x34 0x12 = .ldCAtHl ∧ decodeBytes 0x4F 0x34 0x12 = .ldCA := by
  refine ⟨rfl, rfl, rfl, rfl, rfl, rfl, rfl, rfl, rfl, rfl, rfl, rfl, rfl, rfl, rfl, rfl⟩

/-- The primary table, opcodes 0x50 to 0x5F, from the opcode maps (R314, R318); operand bytes 0x34, 0x12. -/
theorem test_decode_primary_5 :
    decodeBytes 0x50 0x34 0x12 = .ldDB ∧ decodeBytes 0x51 0x34 0x12 = .ldDC ∧
    decodeBytes 0x52 0x34 0x12 = .ldDD ∧ decodeBytes 0x53 0x34 0x12 = .ldDE ∧
    decodeBytes 0x54 0x34 0x12 = .ldDH ∧ decodeBytes 0x55 0x34 0x12 = .ldDL ∧
    decodeBytes 0x56 0x34 0x12 = .ldDAtHl ∧ decodeBytes 0x57 0x34 0x12 = .ldDA ∧
    decodeBytes 0x58 0x34 0x12 = .ldEB ∧ decodeBytes 0x59 0x34 0x12 = .ldEC ∧
    decodeBytes 0x5A 0x34 0x12 = .ldED ∧ decodeBytes 0x5B 0x34 0x12 = .ldEE ∧
    decodeBytes 0x5C 0x34 0x12 = .ldEH ∧ decodeBytes 0x5D 0x34 0x12 = .ldEL ∧
    decodeBytes 0x5E 0x34 0x12 = .ldEAtHl ∧ decodeBytes 0x5F 0x34 0x12 = .ldEA := by
  refine ⟨rfl, rfl, rfl, rfl, rfl, rfl, rfl, rfl, rfl, rfl, rfl, rfl, rfl, rfl, rfl, rfl⟩

/-- The primary table, opcodes 0x60 to 0x6F, from the opcode maps (R314, R318); operand bytes 0x34, 0x12. -/
theorem test_decode_primary_6 :
    decodeBytes 0x60 0x34 0x12 = .ldHB ∧ decodeBytes 0x61 0x34 0x12 = .ldHC ∧
    decodeBytes 0x62 0x34 0x12 = .ldHD ∧ decodeBytes 0x63 0x34 0x12 = .ldHE ∧
    decodeBytes 0x64 0x34 0x12 = .ldHH ∧ decodeBytes 0x65 0x34 0x12 = .ldHL ∧
    decodeBytes 0x66 0x34 0x12 = .ldHAtHl ∧ decodeBytes 0x67 0x34 0x12 = .ldHA ∧
    decodeBytes 0x68 0x34 0x12 = .ldLB ∧ decodeBytes 0x69 0x34 0x12 = .ldLC ∧
    decodeBytes 0x6A 0x34 0x12 = .ldLD ∧ decodeBytes 0x6B 0x34 0x12 = .ldLE ∧
    decodeBytes 0x6C 0x34 0x12 = .ldLH ∧ decodeBytes 0x6D 0x34 0x12 = .ldLL ∧
    decodeBytes 0x6E 0x34 0x12 = .ldLAtHl ∧ decodeBytes 0x6F 0x34 0x12 = .ldLA := by
  refine ⟨rfl, rfl, rfl, rfl, rfl, rfl, rfl, rfl, rfl, rfl, rfl, rfl, rfl, rfl, rfl, rfl⟩

/-- The primary table, opcodes 0x70 to 0x7F, from the opcode maps (R314, R318); operand bytes 0x34, 0x12. -/
theorem test_decode_primary_7 :
    decodeBytes 0x70 0x34 0x12 = .ldAtHlB ∧ decodeBytes 0x71 0x34 0x12 = .ldAtHlC ∧
    decodeBytes 0x72 0x34 0x12 = .ldAtHlD ∧ decodeBytes 0x73 0x34 0x12 = .ldAtHlE ∧
    decodeBytes 0x74 0x34 0x12 = .ldAtHlH ∧ decodeBytes 0x75 0x34 0x12 = .ldAtHlL ∧
    decodeBytes 0x76 0x34 0x12 = .halt ∧ decodeBytes 0x77 0x34 0x12 = .ldAtHlA ∧
    decodeBytes 0x78 0x34 0x12 = .ldAB ∧ decodeBytes 0x79 0x34 0x12 = .ldAC ∧
    decodeBytes 0x7A 0x34 0x12 = .ldAD ∧ decodeBytes 0x7B 0x34 0x12 = .ldAE ∧
    decodeBytes 0x7C 0x34 0x12 = .ldAH ∧ decodeBytes 0x7D 0x34 0x12 = .ldAL ∧
    decodeBytes 0x7E 0x34 0x12 = .ldAAtHl ∧ decodeBytes 0x7F 0x34 0x12 = .ldAA := by
  refine ⟨rfl, rfl, rfl, rfl, rfl, rfl, rfl, rfl, rfl, rfl, rfl, rfl, rfl, rfl, rfl, rfl⟩

/-- The primary table, opcodes 0x80 to 0x8F, from the opcode maps (R314, R318); operand bytes 0x34, 0x12. -/
theorem test_decode_primary_8 :
    decodeBytes 0x80 0x34 0x12 = .addAB ∧ decodeBytes 0x81 0x34 0x12 = .addAC ∧
    decodeBytes 0x82 0x34 0x12 = .addAD ∧ decodeBytes 0x83 0x34 0x12 = .addAE ∧
    decodeBytes 0x84 0x34 0x12 = .addAH ∧ decodeBytes 0x85 0x34 0x12 = .addAL ∧
    decodeBytes 0x86 0x34 0x12 = .addAAtHl ∧ decodeBytes 0x87 0x34 0x12 = .addAA ∧
    decodeBytes 0x88 0x34 0x12 = .adcAB ∧ decodeBytes 0x89 0x34 0x12 = .adcAC ∧
    decodeBytes 0x8A 0x34 0x12 = .adcAD ∧ decodeBytes 0x8B 0x34 0x12 = .adcAE ∧
    decodeBytes 0x8C 0x34 0x12 = .adcAH ∧ decodeBytes 0x8D 0x34 0x12 = .adcAL ∧
    decodeBytes 0x8E 0x34 0x12 = .adcAAtHl ∧ decodeBytes 0x8F 0x34 0x12 = .adcAA := by
  refine ⟨rfl, rfl, rfl, rfl, rfl, rfl, rfl, rfl, rfl, rfl, rfl, rfl, rfl, rfl, rfl, rfl⟩

/-- The primary table, opcodes 0x90 to 0x9F, from the opcode maps (R314, R318); operand bytes 0x34, 0x12. -/
theorem test_decode_primary_9 :
    decodeBytes 0x90 0x34 0x12 = .subB ∧ decodeBytes 0x91 0x34 0x12 = .subC ∧
    decodeBytes 0x92 0x34 0x12 = .subD ∧ decodeBytes 0x93 0x34 0x12 = .subE ∧
    decodeBytes 0x94 0x34 0x12 = .subH ∧ decodeBytes 0x95 0x34 0x12 = .subL ∧
    decodeBytes 0x96 0x34 0x12 = .subAtHl ∧ decodeBytes 0x97 0x34 0x12 = .subA ∧
    decodeBytes 0x98 0x34 0x12 = .sbcAB ∧ decodeBytes 0x99 0x34 0x12 = .sbcAC ∧
    decodeBytes 0x9A 0x34 0x12 = .sbcAD ∧ decodeBytes 0x9B 0x34 0x12 = .sbcAE ∧
    decodeBytes 0x9C 0x34 0x12 = .sbcAH ∧ decodeBytes 0x9D 0x34 0x12 = .sbcAL ∧
    decodeBytes 0x9E 0x34 0x12 = .sbcAAtHl ∧ decodeBytes 0x9F 0x34 0x12 = .sbcAA := by
  refine ⟨rfl, rfl, rfl, rfl, rfl, rfl, rfl, rfl, rfl, rfl, rfl, rfl, rfl, rfl, rfl, rfl⟩

/-- The primary table, opcodes 0xA0 to 0xAF, from the opcode maps (R314, R318); operand bytes 0x34, 0x12. -/
theorem test_decode_primary_A :
    decodeBytes 0xA0 0x34 0x12 = .andB ∧ decodeBytes 0xA1 0x34 0x12 = .andC ∧
    decodeBytes 0xA2 0x34 0x12 = .andD ∧ decodeBytes 0xA3 0x34 0x12 = .andE ∧
    decodeBytes 0xA4 0x34 0x12 = .andH ∧ decodeBytes 0xA5 0x34 0x12 = .andL ∧
    decodeBytes 0xA6 0x34 0x12 = .andAtHl ∧ decodeBytes 0xA7 0x34 0x12 = .andA ∧
    decodeBytes 0xA8 0x34 0x12 = .xorB ∧ decodeBytes 0xA9 0x34 0x12 = .xorC ∧
    decodeBytes 0xAA 0x34 0x12 = .xorD ∧ decodeBytes 0xAB 0x34 0x12 = .xorE ∧
    decodeBytes 0xAC 0x34 0x12 = .xorH ∧ decodeBytes 0xAD 0x34 0x12 = .xorL ∧
    decodeBytes 0xAE 0x34 0x12 = .xorAtHl ∧ decodeBytes 0xAF 0x34 0x12 = .xorA := by
  refine ⟨rfl, rfl, rfl, rfl, rfl, rfl, rfl, rfl, rfl, rfl, rfl, rfl, rfl, rfl, rfl, rfl⟩

/-- The primary table, opcodes 0xB0 to 0xBF, from the opcode maps (R314, R318); operand bytes 0x34, 0x12. -/
theorem test_decode_primary_B :
    decodeBytes 0xB0 0x34 0x12 = .orB ∧ decodeBytes 0xB1 0x34 0x12 = .orC ∧
    decodeBytes 0xB2 0x34 0x12 = .orD ∧ decodeBytes 0xB3 0x34 0x12 = .orE ∧
    decodeBytes 0xB4 0x34 0x12 = .orH ∧ decodeBytes 0xB5 0x34 0x12 = .orL ∧
    decodeBytes 0xB6 0x34 0x12 = .orAtHl ∧ decodeBytes 0xB7 0x34 0x12 = .orA ∧
    decodeBytes 0xB8 0x34 0x12 = .cpB ∧ decodeBytes 0xB9 0x34 0x12 = .cpC ∧
    decodeBytes 0xBA 0x34 0x12 = .cpD ∧ decodeBytes 0xBB 0x34 0x12 = .cpE ∧
    decodeBytes 0xBC 0x34 0x12 = .cpH ∧ decodeBytes 0xBD 0x34 0x12 = .cpL ∧
    decodeBytes 0xBE 0x34 0x12 = .cpAtHl ∧ decodeBytes 0xBF 0x34 0x12 = .cpA := by
  refine ⟨rfl, rfl, rfl, rfl, rfl, rfl, rfl, rfl, rfl, rfl, rfl, rfl, rfl, rfl, rfl, rfl⟩

/-- The primary table, opcodes 0xC0 to 0xCF, from the opcode maps (R314, R318); operand bytes 0x34, 0x12. -/
theorem test_decode_primary_C :
    decodeBytes 0xC0 0x34 0x12 = .retNz ∧ decodeBytes 0xC1 0x34 0x12 = .popBc ∧
    decodeBytes 0xC2 0x34 0x12 = (.jpNzA16 0x1234) ∧ decodeBytes 0xC3 0x34 0x12 = (.jpA16 0x1234) ∧
    decodeBytes 0xC4 0x34 0x12 = (.callNzA16 0x1234) ∧ decodeBytes 0xC5 0x34 0x12 = .pushBc ∧
    decodeBytes 0xC6 0x34 0x12 = (.addAD8 0x34) ∧ decodeBytes 0xC7 0x34 0x12 = .rst00 ∧
    decodeBytes 0xC8 0x34 0x12 = .retZ ∧ decodeBytes 0xC9 0x34 0x12 = .ret ∧
    decodeBytes 0xCA 0x34 0x12 = (.jpZA16 0x1234) ∧ decodeBytes 0xCC 0x34 0x12 = (.callZA16 0x1234) ∧
    decodeBytes 0xCD 0x34 0x12 = (.callA16 0x1234) ∧ decodeBytes 0xCE 0x34 0x12 = (.adcAD8 0x34) ∧
    decodeBytes 0xCF 0x34 0x12 = .rst08 := by
  refine ⟨rfl, rfl, rfl, rfl, rfl, rfl, rfl, rfl, rfl, rfl, rfl, rfl, rfl, rfl, rfl⟩

/-- The primary table, opcodes 0xD0 to 0xDF, from the opcode maps (R314, R318); operand bytes 0x34, 0x12. -/
theorem test_decode_primary_D :
    decodeBytes 0xD0 0x34 0x12 = .retNc ∧ decodeBytes 0xD1 0x34 0x12 = .popDe ∧
    decodeBytes 0xD2 0x34 0x12 = (.jpNcA16 0x1234) ∧ decodeBytes 0xD3 0x34 0x12 = .illegalD3 ∧
    decodeBytes 0xD4 0x34 0x12 = (.callNcA16 0x1234) ∧ decodeBytes 0xD5 0x34 0x12 = .pushDe ∧
    decodeBytes 0xD6 0x34 0x12 = (.subD8 0x34) ∧ decodeBytes 0xD7 0x34 0x12 = .rst10 ∧
    decodeBytes 0xD8 0x34 0x12 = .retC ∧ decodeBytes 0xD9 0x34 0x12 = .reti ∧
    decodeBytes 0xDA 0x34 0x12 = (.jpCA16 0x1234) ∧ decodeBytes 0xDB 0x34 0x12 = .illegalDB ∧
    decodeBytes 0xDC 0x34 0x12 = (.callCA16 0x1234) ∧ decodeBytes 0xDD 0x34 0x12 = .illegalDD ∧
    decodeBytes 0xDE 0x34 0x12 = (.sbcAD8 0x34) ∧ decodeBytes 0xDF 0x34 0x12 = .rst18 := by
  refine ⟨rfl, rfl, rfl, rfl, rfl, rfl, rfl, rfl, rfl, rfl, rfl, rfl, rfl, rfl, rfl, rfl⟩

/-- The primary table, opcodes 0xE0 to 0xEF, from the opcode maps (R314, R318); operand bytes 0x34, 0x12. -/
theorem test_decode_primary_E :
    decodeBytes 0xE0 0x34 0x12 = (.ldhAtA8A 0x34) ∧ decodeBytes 0xE1 0x34 0x12 = .popHl ∧
    decodeBytes 0xE2 0x34 0x12 = .ldAtCA ∧ decodeBytes 0xE3 0x34 0x12 = .illegalE3 ∧
    decodeBytes 0xE4 0x34 0x12 = .illegalE4 ∧ decodeBytes 0xE5 0x34 0x12 = .pushHl ∧
    decodeBytes 0xE6 0x34 0x12 = (.andD8 0x34) ∧ decodeBytes 0xE7 0x34 0x12 = .rst20 ∧
    decodeBytes 0xE8 0x34 0x12 = (.addSpE8 0x34) ∧ decodeBytes 0xE9 0x34 0x12 = .jpHl ∧
    decodeBytes 0xEA 0x34 0x12 = (.ldAtA16A 0x1234) ∧ decodeBytes 0xEB 0x34 0x12 = .illegalEB ∧
    decodeBytes 0xEC 0x34 0x12 = .illegalEC ∧ decodeBytes 0xED 0x34 0x12 = .illegalED ∧
    decodeBytes 0xEE 0x34 0x12 = (.xorD8 0x34) ∧ decodeBytes 0xEF 0x34 0x12 = .rst28 := by
  refine ⟨rfl, rfl, rfl, rfl, rfl, rfl, rfl, rfl, rfl, rfl, rfl, rfl, rfl, rfl, rfl, rfl⟩

/-- The primary table, opcodes 0xF0 to 0xFF, from the opcode maps (R314, R318); operand bytes 0x34, 0x12. -/
theorem test_decode_primary_F :
    decodeBytes 0xF0 0x34 0x12 = (.ldhAAtA8 0x34) ∧ decodeBytes 0xF1 0x34 0x12 = .popAf ∧
    decodeBytes 0xF2 0x34 0x12 = .ldAAtC ∧ decodeBytes 0xF3 0x34 0x12 = .di ∧
    decodeBytes 0xF4 0x34 0x12 = .illegalF4 ∧ decodeBytes 0xF5 0x34 0x12 = .pushAf ∧
    decodeBytes 0xF6 0x34 0x12 = (.orD8 0x34) ∧ decodeBytes 0xF7 0x34 0x12 = .rst30 ∧
    decodeBytes 0xF8 0x34 0x12 = (.ldHlSpE8 0x34) ∧ decodeBytes 0xF9 0x34 0x12 = .ldSpHl ∧
    decodeBytes 0xFA 0x34 0x12 = (.ldAAtA16 0x1234) ∧ decodeBytes 0xFB 0x34 0x12 = .ei ∧
    decodeBytes 0xFC 0x34 0x12 = .illegalFC ∧ decodeBytes 0xFD 0x34 0x12 = .illegalFD ∧
    decodeBytes 0xFE 0x34 0x12 = (.cpD8 0x34) ∧ decodeBytes 0xFF 0x34 0x12 = .rst38 := by
  refine ⟨rfl, rfl, rfl, rfl, rfl, rfl, rfl, rfl, rfl, rfl, rfl, rfl, rfl, rfl, rfl, rfl⟩

/-- The CB table, opcodes 0x00 to 0x0F, from the opcode maps (R314, R318); operand bytes 0x34, 0x12. -/
theorem test_decode_cb_0 :
    decodeBytes 0xCB 0x00 0x12 = .rlcB ∧ decodeBytes 0xCB 0x01 0x12 = .rlcC ∧
    decodeBytes 0xCB 0x02 0x12 = .rlcD ∧ decodeBytes 0xCB 0x03 0x12 = .rlcE ∧
    decodeBytes 0xCB 0x04 0x12 = .rlcH ∧ decodeBytes 0xCB 0x05 0x12 = .rlcL ∧
    decodeBytes 0xCB 0x06 0x12 = .rlcAtHl ∧ decodeBytes 0xCB 0x07 0x12 = .rlcA ∧
    decodeBytes 0xCB 0x08 0x12 = .rrcB ∧ decodeBytes 0xCB 0x09 0x12 = .rrcC ∧
    decodeBytes 0xCB 0x0A 0x12 = .rrcD ∧ decodeBytes 0xCB 0x0B 0x12 = .rrcE ∧
    decodeBytes 0xCB 0x0C 0x12 = .rrcH ∧ decodeBytes 0xCB 0x0D 0x12 = .rrcL ∧
    decodeBytes 0xCB 0x0E 0x12 = .rrcAtHl ∧ decodeBytes 0xCB 0x0F 0x12 = .rrcA := by
  refine ⟨rfl, rfl, rfl, rfl, rfl, rfl, rfl, rfl, rfl, rfl, rfl, rfl, rfl, rfl, rfl, rfl⟩

/-- The CB table, opcodes 0x10 to 0x1F, from the opcode maps (R314, R318); operand bytes 0x34, 0x12. -/
theorem test_decode_cb_1 :
    decodeBytes 0xCB 0x10 0x12 = .rlB ∧ decodeBytes 0xCB 0x11 0x12 = .rlC ∧
    decodeBytes 0xCB 0x12 0x12 = .rlD ∧ decodeBytes 0xCB 0x13 0x12 = .rlE ∧
    decodeBytes 0xCB 0x14 0x12 = .rlH ∧ decodeBytes 0xCB 0x15 0x12 = .rlL ∧
    decodeBytes 0xCB 0x16 0x12 = .rlAtHl ∧ decodeBytes 0xCB 0x17 0x12 = .rlA ∧
    decodeBytes 0xCB 0x18 0x12 = .rrB ∧ decodeBytes 0xCB 0x19 0x12 = .rrC ∧
    decodeBytes 0xCB 0x1A 0x12 = .rrD ∧ decodeBytes 0xCB 0x1B 0x12 = .rrE ∧
    decodeBytes 0xCB 0x1C 0x12 = .rrH ∧ decodeBytes 0xCB 0x1D 0x12 = .rrL ∧
    decodeBytes 0xCB 0x1E 0x12 = .rrAtHl ∧ decodeBytes 0xCB 0x1F 0x12 = .rrA := by
  refine ⟨rfl, rfl, rfl, rfl, rfl, rfl, rfl, rfl, rfl, rfl, rfl, rfl, rfl, rfl, rfl, rfl⟩

/-- The CB table, opcodes 0x20 to 0x2F, from the opcode maps (R314, R318); operand bytes 0x34, 0x12. -/
theorem test_decode_cb_2 :
    decodeBytes 0xCB 0x20 0x12 = .slaB ∧ decodeBytes 0xCB 0x21 0x12 = .slaC ∧
    decodeBytes 0xCB 0x22 0x12 = .slaD ∧ decodeBytes 0xCB 0x23 0x12 = .slaE ∧
    decodeBytes 0xCB 0x24 0x12 = .slaH ∧ decodeBytes 0xCB 0x25 0x12 = .slaL ∧
    decodeBytes 0xCB 0x26 0x12 = .slaAtHl ∧ decodeBytes 0xCB 0x27 0x12 = .slaA ∧
    decodeBytes 0xCB 0x28 0x12 = .sraB ∧ decodeBytes 0xCB 0x29 0x12 = .sraC ∧
    decodeBytes 0xCB 0x2A 0x12 = .sraD ∧ decodeBytes 0xCB 0x2B 0x12 = .sraE ∧
    decodeBytes 0xCB 0x2C 0x12 = .sraH ∧ decodeBytes 0xCB 0x2D 0x12 = .sraL ∧
    decodeBytes 0xCB 0x2E 0x12 = .sraAtHl ∧ decodeBytes 0xCB 0x2F 0x12 = .sraA := by
  refine ⟨rfl, rfl, rfl, rfl, rfl, rfl, rfl, rfl, rfl, rfl, rfl, rfl, rfl, rfl, rfl, rfl⟩

/-- The CB table, opcodes 0x30 to 0x3F, from the opcode maps (R314, R318); operand bytes 0x34, 0x12. -/
theorem test_decode_cb_3 :
    decodeBytes 0xCB 0x30 0x12 = .swapB ∧ decodeBytes 0xCB 0x31 0x12 = .swapC ∧
    decodeBytes 0xCB 0x32 0x12 = .swapD ∧ decodeBytes 0xCB 0x33 0x12 = .swapE ∧
    decodeBytes 0xCB 0x34 0x12 = .swapH ∧ decodeBytes 0xCB 0x35 0x12 = .swapL ∧
    decodeBytes 0xCB 0x36 0x12 = .swapAtHl ∧ decodeBytes 0xCB 0x37 0x12 = .swapA ∧
    decodeBytes 0xCB 0x38 0x12 = .srlB ∧ decodeBytes 0xCB 0x39 0x12 = .srlC ∧
    decodeBytes 0xCB 0x3A 0x12 = .srlD ∧ decodeBytes 0xCB 0x3B 0x12 = .srlE ∧
    decodeBytes 0xCB 0x3C 0x12 = .srlH ∧ decodeBytes 0xCB 0x3D 0x12 = .srlL ∧
    decodeBytes 0xCB 0x3E 0x12 = .srlAtHl ∧ decodeBytes 0xCB 0x3F 0x12 = .srlA := by
  refine ⟨rfl, rfl, rfl, rfl, rfl, rfl, rfl, rfl, rfl, rfl, rfl, rfl, rfl, rfl, rfl, rfl⟩

/-- The CB table, opcodes 0x40 to 0x4F, from the opcode maps (R314, R318); operand bytes 0x34, 0x12. -/
theorem test_decode_cb_4 :
    decodeBytes 0xCB 0x40 0x12 = .bit0B ∧ decodeBytes 0xCB 0x41 0x12 = .bit0C ∧
    decodeBytes 0xCB 0x42 0x12 = .bit0D ∧ decodeBytes 0xCB 0x43 0x12 = .bit0E ∧
    decodeBytes 0xCB 0x44 0x12 = .bit0H ∧ decodeBytes 0xCB 0x45 0x12 = .bit0L ∧
    decodeBytes 0xCB 0x46 0x12 = .bit0AtHl ∧ decodeBytes 0xCB 0x47 0x12 = .bit0A ∧
    decodeBytes 0xCB 0x48 0x12 = .bit1B ∧ decodeBytes 0xCB 0x49 0x12 = .bit1C ∧
    decodeBytes 0xCB 0x4A 0x12 = .bit1D ∧ decodeBytes 0xCB 0x4B 0x12 = .bit1E ∧
    decodeBytes 0xCB 0x4C 0x12 = .bit1H ∧ decodeBytes 0xCB 0x4D 0x12 = .bit1L ∧
    decodeBytes 0xCB 0x4E 0x12 = .bit1AtHl ∧ decodeBytes 0xCB 0x4F 0x12 = .bit1A := by
  refine ⟨rfl, rfl, rfl, rfl, rfl, rfl, rfl, rfl, rfl, rfl, rfl, rfl, rfl, rfl, rfl, rfl⟩

/-- The CB table, opcodes 0x50 to 0x5F, from the opcode maps (R314, R318); operand bytes 0x34, 0x12. -/
theorem test_decode_cb_5 :
    decodeBytes 0xCB 0x50 0x12 = .bit2B ∧ decodeBytes 0xCB 0x51 0x12 = .bit2C ∧
    decodeBytes 0xCB 0x52 0x12 = .bit2D ∧ decodeBytes 0xCB 0x53 0x12 = .bit2E ∧
    decodeBytes 0xCB 0x54 0x12 = .bit2H ∧ decodeBytes 0xCB 0x55 0x12 = .bit2L ∧
    decodeBytes 0xCB 0x56 0x12 = .bit2AtHl ∧ decodeBytes 0xCB 0x57 0x12 = .bit2A ∧
    decodeBytes 0xCB 0x58 0x12 = .bit3B ∧ decodeBytes 0xCB 0x59 0x12 = .bit3C ∧
    decodeBytes 0xCB 0x5A 0x12 = .bit3D ∧ decodeBytes 0xCB 0x5B 0x12 = .bit3E ∧
    decodeBytes 0xCB 0x5C 0x12 = .bit3H ∧ decodeBytes 0xCB 0x5D 0x12 = .bit3L ∧
    decodeBytes 0xCB 0x5E 0x12 = .bit3AtHl ∧ decodeBytes 0xCB 0x5F 0x12 = .bit3A := by
  refine ⟨rfl, rfl, rfl, rfl, rfl, rfl, rfl, rfl, rfl, rfl, rfl, rfl, rfl, rfl, rfl, rfl⟩

/-- The CB table, opcodes 0x60 to 0x6F, from the opcode maps (R314, R318); operand bytes 0x34, 0x12. -/
theorem test_decode_cb_6 :
    decodeBytes 0xCB 0x60 0x12 = .bit4B ∧ decodeBytes 0xCB 0x61 0x12 = .bit4C ∧
    decodeBytes 0xCB 0x62 0x12 = .bit4D ∧ decodeBytes 0xCB 0x63 0x12 = .bit4E ∧
    decodeBytes 0xCB 0x64 0x12 = .bit4H ∧ decodeBytes 0xCB 0x65 0x12 = .bit4L ∧
    decodeBytes 0xCB 0x66 0x12 = .bit4AtHl ∧ decodeBytes 0xCB 0x67 0x12 = .bit4A ∧
    decodeBytes 0xCB 0x68 0x12 = .bit5B ∧ decodeBytes 0xCB 0x69 0x12 = .bit5C ∧
    decodeBytes 0xCB 0x6A 0x12 = .bit5D ∧ decodeBytes 0xCB 0x6B 0x12 = .bit5E ∧
    decodeBytes 0xCB 0x6C 0x12 = .bit5H ∧ decodeBytes 0xCB 0x6D 0x12 = .bit5L ∧
    decodeBytes 0xCB 0x6E 0x12 = .bit5AtHl ∧ decodeBytes 0xCB 0x6F 0x12 = .bit5A := by
  refine ⟨rfl, rfl, rfl, rfl, rfl, rfl, rfl, rfl, rfl, rfl, rfl, rfl, rfl, rfl, rfl, rfl⟩

/-- The CB table, opcodes 0x70 to 0x7F, from the opcode maps (R314, R318); operand bytes 0x34, 0x12. -/
theorem test_decode_cb_7 :
    decodeBytes 0xCB 0x70 0x12 = .bit6B ∧ decodeBytes 0xCB 0x71 0x12 = .bit6C ∧
    decodeBytes 0xCB 0x72 0x12 = .bit6D ∧ decodeBytes 0xCB 0x73 0x12 = .bit6E ∧
    decodeBytes 0xCB 0x74 0x12 = .bit6H ∧ decodeBytes 0xCB 0x75 0x12 = .bit6L ∧
    decodeBytes 0xCB 0x76 0x12 = .bit6AtHl ∧ decodeBytes 0xCB 0x77 0x12 = .bit6A ∧
    decodeBytes 0xCB 0x78 0x12 = .bit7B ∧ decodeBytes 0xCB 0x79 0x12 = .bit7C ∧
    decodeBytes 0xCB 0x7A 0x12 = .bit7D ∧ decodeBytes 0xCB 0x7B 0x12 = .bit7E ∧
    decodeBytes 0xCB 0x7C 0x12 = .bit7H ∧ decodeBytes 0xCB 0x7D 0x12 = .bit7L ∧
    decodeBytes 0xCB 0x7E 0x12 = .bit7AtHl ∧ decodeBytes 0xCB 0x7F 0x12 = .bit7A := by
  refine ⟨rfl, rfl, rfl, rfl, rfl, rfl, rfl, rfl, rfl, rfl, rfl, rfl, rfl, rfl, rfl, rfl⟩

/-- The CB table, opcodes 0x80 to 0x8F, from the opcode maps (R314, R318); operand bytes 0x34, 0x12. -/
theorem test_decode_cb_8 :
    decodeBytes 0xCB 0x80 0x12 = .res0B ∧ decodeBytes 0xCB 0x81 0x12 = .res0C ∧
    decodeBytes 0xCB 0x82 0x12 = .res0D ∧ decodeBytes 0xCB 0x83 0x12 = .res0E ∧
    decodeBytes 0xCB 0x84 0x12 = .res0H ∧ decodeBytes 0xCB 0x85 0x12 = .res0L ∧
    decodeBytes 0xCB 0x86 0x12 = .res0AtHl ∧ decodeBytes 0xCB 0x87 0x12 = .res0A ∧
    decodeBytes 0xCB 0x88 0x12 = .res1B ∧ decodeBytes 0xCB 0x89 0x12 = .res1C ∧
    decodeBytes 0xCB 0x8A 0x12 = .res1D ∧ decodeBytes 0xCB 0x8B 0x12 = .res1E ∧
    decodeBytes 0xCB 0x8C 0x12 = .res1H ∧ decodeBytes 0xCB 0x8D 0x12 = .res1L ∧
    decodeBytes 0xCB 0x8E 0x12 = .res1AtHl ∧ decodeBytes 0xCB 0x8F 0x12 = .res1A := by
  refine ⟨rfl, rfl, rfl, rfl, rfl, rfl, rfl, rfl, rfl, rfl, rfl, rfl, rfl, rfl, rfl, rfl⟩

/-- The CB table, opcodes 0x90 to 0x9F, from the opcode maps (R314, R318); operand bytes 0x34, 0x12. -/
theorem test_decode_cb_9 :
    decodeBytes 0xCB 0x90 0x12 = .res2B ∧ decodeBytes 0xCB 0x91 0x12 = .res2C ∧
    decodeBytes 0xCB 0x92 0x12 = .res2D ∧ decodeBytes 0xCB 0x93 0x12 = .res2E ∧
    decodeBytes 0xCB 0x94 0x12 = .res2H ∧ decodeBytes 0xCB 0x95 0x12 = .res2L ∧
    decodeBytes 0xCB 0x96 0x12 = .res2AtHl ∧ decodeBytes 0xCB 0x97 0x12 = .res2A ∧
    decodeBytes 0xCB 0x98 0x12 = .res3B ∧ decodeBytes 0xCB 0x99 0x12 = .res3C ∧
    decodeBytes 0xCB 0x9A 0x12 = .res3D ∧ decodeBytes 0xCB 0x9B 0x12 = .res3E ∧
    decodeBytes 0xCB 0x9C 0x12 = .res3H ∧ decodeBytes 0xCB 0x9D 0x12 = .res3L ∧
    decodeBytes 0xCB 0x9E 0x12 = .res3AtHl ∧ decodeBytes 0xCB 0x9F 0x12 = .res3A := by
  refine ⟨rfl, rfl, rfl, rfl, rfl, rfl, rfl, rfl, rfl, rfl, rfl, rfl, rfl, rfl, rfl, rfl⟩

/-- The CB table, opcodes 0xA0 to 0xAF, from the opcode maps (R314, R318); operand bytes 0x34, 0x12. -/
theorem test_decode_cb_A :
    decodeBytes 0xCB 0xA0 0x12 = .res4B ∧ decodeBytes 0xCB 0xA1 0x12 = .res4C ∧
    decodeBytes 0xCB 0xA2 0x12 = .res4D ∧ decodeBytes 0xCB 0xA3 0x12 = .res4E ∧
    decodeBytes 0xCB 0xA4 0x12 = .res4H ∧ decodeBytes 0xCB 0xA5 0x12 = .res4L ∧
    decodeBytes 0xCB 0xA6 0x12 = .res4AtHl ∧ decodeBytes 0xCB 0xA7 0x12 = .res4A ∧
    decodeBytes 0xCB 0xA8 0x12 = .res5B ∧ decodeBytes 0xCB 0xA9 0x12 = .res5C ∧
    decodeBytes 0xCB 0xAA 0x12 = .res5D ∧ decodeBytes 0xCB 0xAB 0x12 = .res5E ∧
    decodeBytes 0xCB 0xAC 0x12 = .res5H ∧ decodeBytes 0xCB 0xAD 0x12 = .res5L ∧
    decodeBytes 0xCB 0xAE 0x12 = .res5AtHl ∧ decodeBytes 0xCB 0xAF 0x12 = .res5A := by
  refine ⟨rfl, rfl, rfl, rfl, rfl, rfl, rfl, rfl, rfl, rfl, rfl, rfl, rfl, rfl, rfl, rfl⟩

/-- The CB table, opcodes 0xB0 to 0xBF, from the opcode maps (R314, R318); operand bytes 0x34, 0x12. -/
theorem test_decode_cb_B :
    decodeBytes 0xCB 0xB0 0x12 = .res6B ∧ decodeBytes 0xCB 0xB1 0x12 = .res6C ∧
    decodeBytes 0xCB 0xB2 0x12 = .res6D ∧ decodeBytes 0xCB 0xB3 0x12 = .res6E ∧
    decodeBytes 0xCB 0xB4 0x12 = .res6H ∧ decodeBytes 0xCB 0xB5 0x12 = .res6L ∧
    decodeBytes 0xCB 0xB6 0x12 = .res6AtHl ∧ decodeBytes 0xCB 0xB7 0x12 = .res6A ∧
    decodeBytes 0xCB 0xB8 0x12 = .res7B ∧ decodeBytes 0xCB 0xB9 0x12 = .res7C ∧
    decodeBytes 0xCB 0xBA 0x12 = .res7D ∧ decodeBytes 0xCB 0xBB 0x12 = .res7E ∧
    decodeBytes 0xCB 0xBC 0x12 = .res7H ∧ decodeBytes 0xCB 0xBD 0x12 = .res7L ∧
    decodeBytes 0xCB 0xBE 0x12 = .res7AtHl ∧ decodeBytes 0xCB 0xBF 0x12 = .res7A := by
  refine ⟨rfl, rfl, rfl, rfl, rfl, rfl, rfl, rfl, rfl, rfl, rfl, rfl, rfl, rfl, rfl, rfl⟩

/-- The CB table, opcodes 0xC0 to 0xCF, from the opcode maps (R314, R318); operand bytes 0x34, 0x12. -/
theorem test_decode_cb_C :
    decodeBytes 0xCB 0xC0 0x12 = .set0B ∧ decodeBytes 0xCB 0xC1 0x12 = .set0C ∧
    decodeBytes 0xCB 0xC2 0x12 = .set0D ∧ decodeBytes 0xCB 0xC3 0x12 = .set0E ∧
    decodeBytes 0xCB 0xC4 0x12 = .set0H ∧ decodeBytes 0xCB 0xC5 0x12 = .set0L ∧
    decodeBytes 0xCB 0xC6 0x12 = .set0AtHl ∧ decodeBytes 0xCB 0xC7 0x12 = .set0A ∧
    decodeBytes 0xCB 0xC8 0x12 = .set1B ∧ decodeBytes 0xCB 0xC9 0x12 = .set1C ∧
    decodeBytes 0xCB 0xCA 0x12 = .set1D ∧ decodeBytes 0xCB 0xCB 0x12 = .set1E ∧
    decodeBytes 0xCB 0xCC 0x12 = .set1H ∧ decodeBytes 0xCB 0xCD 0x12 = .set1L ∧
    decodeBytes 0xCB 0xCE 0x12 = .set1AtHl ∧ decodeBytes 0xCB 0xCF 0x12 = .set1A := by
  refine ⟨rfl, rfl, rfl, rfl, rfl, rfl, rfl, rfl, rfl, rfl, rfl, rfl, rfl, rfl, rfl, rfl⟩

/-- The CB table, opcodes 0xD0 to 0xDF, from the opcode maps (R314, R318); operand bytes 0x34, 0x12. -/
theorem test_decode_cb_D :
    decodeBytes 0xCB 0xD0 0x12 = .set2B ∧ decodeBytes 0xCB 0xD1 0x12 = .set2C ∧
    decodeBytes 0xCB 0xD2 0x12 = .set2D ∧ decodeBytes 0xCB 0xD3 0x12 = .set2E ∧
    decodeBytes 0xCB 0xD4 0x12 = .set2H ∧ decodeBytes 0xCB 0xD5 0x12 = .set2L ∧
    decodeBytes 0xCB 0xD6 0x12 = .set2AtHl ∧ decodeBytes 0xCB 0xD7 0x12 = .set2A ∧
    decodeBytes 0xCB 0xD8 0x12 = .set3B ∧ decodeBytes 0xCB 0xD9 0x12 = .set3C ∧
    decodeBytes 0xCB 0xDA 0x12 = .set3D ∧ decodeBytes 0xCB 0xDB 0x12 = .set3E ∧
    decodeBytes 0xCB 0xDC 0x12 = .set3H ∧ decodeBytes 0xCB 0xDD 0x12 = .set3L ∧
    decodeBytes 0xCB 0xDE 0x12 = .set3AtHl ∧ decodeBytes 0xCB 0xDF 0x12 = .set3A := by
  refine ⟨rfl, rfl, rfl, rfl, rfl, rfl, rfl, rfl, rfl, rfl, rfl, rfl, rfl, rfl, rfl, rfl⟩

/-- The CB table, opcodes 0xE0 to 0xEF, from the opcode maps (R314, R318); operand bytes 0x34, 0x12. -/
theorem test_decode_cb_E :
    decodeBytes 0xCB 0xE0 0x12 = .set4B ∧ decodeBytes 0xCB 0xE1 0x12 = .set4C ∧
    decodeBytes 0xCB 0xE2 0x12 = .set4D ∧ decodeBytes 0xCB 0xE3 0x12 = .set4E ∧
    decodeBytes 0xCB 0xE4 0x12 = .set4H ∧ decodeBytes 0xCB 0xE5 0x12 = .set4L ∧
    decodeBytes 0xCB 0xE6 0x12 = .set4AtHl ∧ decodeBytes 0xCB 0xE7 0x12 = .set4A ∧
    decodeBytes 0xCB 0xE8 0x12 = .set5B ∧ decodeBytes 0xCB 0xE9 0x12 = .set5C ∧
    decodeBytes 0xCB 0xEA 0x12 = .set5D ∧ decodeBytes 0xCB 0xEB 0x12 = .set5E ∧
    decodeBytes 0xCB 0xEC 0x12 = .set5H ∧ decodeBytes 0xCB 0xED 0x12 = .set5L ∧
    decodeBytes 0xCB 0xEE 0x12 = .set5AtHl ∧ decodeBytes 0xCB 0xEF 0x12 = .set5A := by
  refine ⟨rfl, rfl, rfl, rfl, rfl, rfl, rfl, rfl, rfl, rfl, rfl, rfl, rfl, rfl, rfl, rfl⟩

/-- The CB table, opcodes 0xF0 to 0xFF, from the opcode maps (R314, R318); operand bytes 0x34, 0x12. -/
theorem test_decode_cb_F :
    decodeBytes 0xCB 0xF0 0x12 = .set6B ∧ decodeBytes 0xCB 0xF1 0x12 = .set6C ∧
    decodeBytes 0xCB 0xF2 0x12 = .set6D ∧ decodeBytes 0xCB 0xF3 0x12 = .set6E ∧
    decodeBytes 0xCB 0xF4 0x12 = .set6H ∧ decodeBytes 0xCB 0xF5 0x12 = .set6L ∧
    decodeBytes 0xCB 0xF6 0x12 = .set6AtHl ∧ decodeBytes 0xCB 0xF7 0x12 = .set6A ∧
    decodeBytes 0xCB 0xF8 0x12 = .set7B ∧ decodeBytes 0xCB 0xF9 0x12 = .set7C ∧
    decodeBytes 0xCB 0xFA 0x12 = .set7D ∧ decodeBytes 0xCB 0xFB 0x12 = .set7E ∧
    decodeBytes 0xCB 0xFC 0x12 = .set7H ∧ decodeBytes 0xCB 0xFD 0x12 = .set7L ∧
    decodeBytes 0xCB 0xFE 0x12 = .set7AtHl ∧ decodeBytes 0xCB 0xFF 0x12 = .set7A := by
  refine ⟨rfl, rfl, rfl, rfl, rfl, rfl, rfl, rfl, rfl, rfl, rfl, rfl, rfl, rfl, rfl, rfl⟩

/-- The CPU of the vector tables' start state (95_test_vectors.md section 2.1): registers zero, SP = 0xFFFE, PC = 0x0100. -/
def startCpu : Cpu := { State.resetCpu with a := 0, f := 0, c := 0, e := 0, h := 0, l := 0 }

/-- The start state: an instruction at 0x0100 of the image, the CPU as given, some bytes of memory set. -/
def start (code : List Byte) (cpu : Cpu) (cells : List (Word × Byte)) : State :=
  let s := { State.reset with cpu := cpu, cart := { State.resetCart with rom := Memory.ofBytesFrom 0x100 code } }
  cells.foldl (fun t c => if c.1 = 0xFFFF then { t with ic.ie := c.2 } else placeByte c.1 c.2 t) s

/-- The state an outcome holds, the given one where it holds none. -/
def stateOf (o : Host.Outcome State Fault Refusal) (s : State) : State :=
  match o with
  | .next t => t
  | .fault _ => s
  | .refused _ => s

/-- One CPU step (R321), no device step. -/
def ran (code : List Byte) (cpu : Cpu) (cells : List (Word × Byte)) : State :=
  stateOf (cpuStep (start code cpu cells)) State.reset

/-- Vector 40.1, `LD B,C` (R402). -/
theorem test_vector_40_1 :
    let t := ran [0x41] { startCpu with c := 0x5A, f := 0xF0 } []
    t.cpu.b = 0x5A ∧ t.cpu.f = 0xF0 ∧ t.cpu.cycles = 4 := by
  decide

/-- Vector 40.2, `LD A,(HL)` (R404). -/
theorem test_vector_40_2 :
    let t := ran [0x7E] { startCpu with h := 0xC1, l := 0x23 } [(0xC123, 0x99)]
    t.cpu.a = 0x99 ∧ t.cpu.f = 0x0 ∧ t.cpu.cycles = 8 := by
  decide

/-- Vector 40.3, `LD (HL),A` (R405). -/
theorem test_vector_40_3 :
    let t := ran [0x77] { startCpu with h := 0xC0, l := 0x0, a := 0x42 } []
    t.cpu.f = 0x0 ∧ read8 t 0xC000 = 0x42 ∧ t.cpu.cycles = 8 := by
  decide

/-- Vector 40.4, `LD (HL),0x7F` (R406). -/
theorem test_vector_40_4 :
    let t := ran [0x36, 0x7F] { startCpu with h := 0xC0, l := 0x1 } []
    t.cpu.f = 0x0 ∧ read8 t 0xC001 = 0x7F ∧ t.cpu.cycles = 12 := by
  decide

/-- Vector 40.5, `LD A,(DE)` (R408). -/
theorem test_vector_40_5 :
    let t := ran [0x1A] { startCpu with d := 0xE0, e := 0x10 } [(0xC010, 0x3C)]
    t.cpu.a = 0x3C ∧ t.cpu.f = 0x0 ∧ t.cpu.cycles = 8 := by
  decide

/-- Vector 40.6, `LD (BC),A` (R409). -/
theorem test_vector_40_6 :
    let t := ran [0x02] { startCpu with b := 0xFE, c := 0xA0, a := 0x11 } []
    t.cpu.f = 0x0 ∧ read8 t 0xFEA0 = 0xFF ∧ t.cpu.cycles = 8 := by
  decide

/-- Vector 40.7, `LD A,(0x8000)` (R411). -/
theorem test_vector_40_7 :
    let t := ran [0xFA, 0x00, 0x80] startCpu [(0x8000, 0x77)]
    t.cpu.a = 0x77 ∧ t.cpu.f = 0x0 ∧ t.cpu.cycles = 16 := by
  decide

/-- Vector 40.8, `LD (0xC100),A` (R412). -/
theorem test_vector_40_8 :
    let t := ran [0xEA, 0x00, 0xC1] { startCpu with a := 0xAB } []
    t.cpu.f = 0x0 ∧ read8 t 0xC100 = 0xAB ∧ t.cpu.cycles = 16 := by
  decide

/-- Vector 40.9, `LDH A,(0x41)` (R413). -/
theorem test_vector_40_9 :
    let t := ran [0xF0, 0x41] startCpu []
    t.cpu.a = 0x86 ∧ t.cpu.f = 0x0 ∧ t.cpu.cycles = 12 := by
  decide

/-- Vector 40.10, `LDH (0x80),A` (R414). -/
theorem test_vector_40_10 :
    let t := ran [0xE0, 0x80] { startCpu with a := 0x5E } []
    t.cpu.f = 0x0 ∧ read8 t 0xFF80 = 0x5E ∧ t.cpu.cycles = 12 := by
  decide

/-- Vector 40.11, `LD A,(C)` (R415). -/
theorem test_vector_40_11 :
    let t := ran [0xF2] { startCpu with c := 0x7 } []
    t.cpu.a = 0xF8 ∧ t.cpu.f = 0x0 ∧ t.cpu.cycles = 8 := by
  decide

/-- Vector 40.12, `LD (C),A` (R416). -/
theorem test_vector_40_12 :
    let t := ran [0xE2] { startCpu with c := 0xF, a := 0xFF } []
    t.cpu.f = 0x0 ∧ read8 t 0xFF0F = 0xFF ∧ t.cpu.cycles = 8 := by
  decide

/-- Vector 40.13, `LD (HL+),A` (R417). -/
theorem test_vector_40_13 :
    let t := ran [0x22] { startCpu with h := 0xFF, l := 0xFF, a := 0x1F } []
    t.cpu.h = 0x0 ∧ t.cpu.l = 0x0 ∧ t.cpu.f = 0x0 ∧ read8 t 0xFFFF = 0x1F ∧ t.cpu.cycles = 8 := by
  decide

/-- Vector 40.14, `LD (HL-),A` (R418). -/
theorem test_vector_40_14 :
    let t := ran [0x32] { startCpu with h := 0xC0, l := 0x0, a := 0x1 } []
    t.cpu.h = 0xBF ∧ t.cpu.l = 0xFF ∧ t.cpu.f = 0x0 ∧ read8 t 0xC000 = 0x1 ∧ t.cpu.cycles = 8 := by
  decide

/-- Vector 40.15, `LD A,(HL+)` (R419). -/
theorem test_vector_40_15 :
    let t := ran [0x2A] { startCpu with h := 0xC0, l := 0xFF } [(0xC0FF, 0x12)]
    t.cpu.a = 0x12 ∧ t.cpu.h = 0xC1 ∧ t.cpu.l = 0x0 ∧ t.cpu.f = 0x0 ∧ t.cpu.cycles = 8 := by
  decide

/-- Vector 40.16, `LD A,(HL-)` (R420). -/
theorem test_vector_40_16 :
    let t := ran [0x3A] { startCpu with h := 0xC0, l := 0x0 } [(0xC000, 0x34)]
    t.cpu.a = 0x34 ∧ t.cpu.h = 0xBF ∧ t.cpu.l = 0xFF ∧ t.cpu.f = 0x0 ∧ t.cpu.cycles = 8 := by
  decide

/-- Vector 40.17, `LD HL,0xBEEF` (R421). -/
theorem test_vector_40_17 :
    let t := ran [0x21, 0xEF, 0xBE] { startCpu with f := 0xB0 } []
    t.cpu.h = 0xBE ∧ t.cpu.l = 0xEF ∧ t.cpu.f = 0xB0 ∧ t.cpu.cycles = 12 := by
  decide

/-- Vector 40.18, `LD SP,HL` (R422). -/
theorem test_vector_40_18 :
    let t := ran [0xF9] { startCpu with h := 0xD0, l := 0x0 } []
    t.cpu.sp = 0xD000 ∧ t.cpu.f = 0x0 ∧ t.cpu.cycles = 8 := by
  decide

/-- Vector 40.19, `LD (0xC000),SP` (R423). -/
theorem test_vector_40_19 :
    let t := ran [0x08, 0x00, 0xC0] { startCpu with sp := 0xFFF8 } []
    t.cpu.f = 0x0 ∧ read8 t 0xC000 = 0xF8 ∧ read8 t 0xC001 = 0xFF ∧ t.cpu.cycles = 20 := by
  decide

/-- Vector 40.20, `PUSH BC` (R424). -/
theorem test_vector_40_20 :
    let t := ran [0xC5] { startCpu with b := 0x12, c := 0x34, sp := 0xD000 } []
    t.cpu.sp = 0xCFFE ∧ t.cpu.f = 0x0 ∧ read8 t 0xCFFE = 0x34 ∧ read8 t 0xCFFF = 0x12 ∧ t.cpu.cycles = 16 := by
  decide

/-- Vector 40.21, `PUSH AF` (R425). -/
theorem test_vector_40_21 :
    let t := ran [0xF5] { startCpu with a := 0x12, f := 0xA0, sp := 0xD000 } []
    t.cpu.sp = 0xCFFE ∧ t.cpu.f = 0xA0 ∧ read8 t 0xCFFE = 0xA0 ∧ read8 t 0xCFFF = 0x12 ∧ t.cpu.cycles = 16 := by
  decide

/-- Vector 40.22, `POP DE` (R426). -/
theorem test_vector_40_22 :
    let t := ran [0xD1] { startCpu with sp := 0xCFFE } [(0xCFFE, 0x78), (0xCFFF, 0x56)]
    t.cpu.d = 0x56 ∧ t.cpu.e = 0x78 ∧ t.cpu.sp = 0xD000 ∧ t.cpu.f = 0x0 ∧ t.cpu.cycles = 12 := by
  decide

/-- Vector 40.23, `POP AF` (R427). -/
theorem test_vector_40_23 :
    let t := ran [0xF1] { startCpu with sp := 0xCFFE } [(0xCFFE, 0xFF), (0xCFFF, 0x12)]
    t.cpu.a = 0x12 ∧ t.cpu.sp = 0xD000 ∧ t.cpu.f = 0xF0 ∧ t.cpu.cycles = 12 := by
  decide

/-- Vector 41.1, `ADD A,B` (R453). -/
theorem test_vector_41_1 :
    let t := ran [0x80] { startCpu with a := 0x3A, b := 0xC6 } []
    t.cpu.a = 0x0 ∧ t.cpu.f = 0xB0 ∧ t.cpu.cycles = 4 := by
  decide

/-- Vector 41.3, `ADD A,(HL)` (R454). -/
theorem test_vector_41_3 :
    let t := ran [0x86] { startCpu with a := 0x80, h := 0xC0, l := 0x0 } [(0xC000, 0x80)]
    t.cpu.a = 0x0 ∧ t.cpu.f = 0x90 ∧ t.cpu.cycles = 8 := by
  decide

/-- Vector 41.4, `ADD A,0xFF` (R455). -/
theorem test_vector_41_4 :
    let t := ran [0xC6, 0xFF] { startCpu with a := 0x1 } []
    t.cpu.a = 0x0 ∧ t.cpu.f = 0xB0 ∧ t.cpu.cycles = 8 := by
  decide

/-- Vector 41.5, `ADC A,C` (R456). -/
theorem test_vector_41_5 :
    let t := ran [0x89] { startCpu with a := 0xE, c := 0x1, f := 0x10 } []
    t.cpu.a = 0x10 ∧ t.cpu.f = 0x20 ∧ t.cpu.cycles = 4 := by
  decide

/-- Vector 41.6, `ADC A,0xFF` (R458). -/
theorem test_vector_41_6 :
    let t := ran [0xCE, 0xFF] { startCpu with a := 0x0, f := 0x10 } []
    t.cpu.a = 0x0 ∧ t.cpu.f = 0xB0 ∧ t.cpu.cycles = 8 := by
  decide

/-- Vector 41.7, `SUB B` (R459). -/
theorem test_vector_41_7 :
    let t := ran [0x90] { startCpu with a := 0x3E, b := 0x3E } []
    t.cpu.a = 0x0 ∧ t.cpu.f = 0xC0 ∧ t.cpu.cycles = 4 := by
  decide

/-- Vector 41.8, `SUB 0x0F` (R461). -/
theorem test_vector_41_8 :
    let t := ran [0xD6, 0x0F] { startCpu with a := 0x10 } []
    t.cpu.a = 0x1 ∧ t.cpu.f = 0x60 ∧ t.cpu.cycles = 8 := by
  decide

/-- Vector 41.10, `SBC A,D` (R462). -/
theorem test_vector_41_10 :
    let t := ran [0x9A] { startCpu with a := 0x10, d := 0xF, f := 0x10 } []
    t.cpu.a = 0x0 ∧ t.cpu.f = 0xE0 ∧ t.cpu.cycles = 4 := by
  decide

/-- Vector 41.11, `SBC A,0x00` (R464). -/
theorem test_vector_41_11 :
    let t := ran [0xDE, 0x00] { startCpu with a := 0x0, f := 0x10 } []
    t.cpu.a = 0xFF ∧ t.cpu.f = 0x70 ∧ t.cpu.cycles = 8 := by
  decide

/-- Vector 41.12, `AND E` (R465). -/
theorem test_vector_41_12 :
    let t := ran [0xA3] { startCpu with a := 0xF0, e := 0xF } []
    t.cpu.a = 0x0 ∧ t.cpu.f = 0xA0 ∧ t.cpu.cycles = 4 := by
  decide

/-- Vector 41.13, `AND 0x3C` (R467). -/
theorem test_vector_41_13 :
    let t := ran [0xE6, 0x3C] { startCpu with a := 0xFF, f := 0x10 } []
    t.cpu.a = 0x3C ∧ t.cpu.f = 0x20 ∧ t.cpu.cycles = 8 := by
  decide

/-- Vector 41.14, `XOR A` (R468). -/
theorem test_vector_41_14 :
    let t := ran [0xAF] { startCpu with a := 0x5A, f := 0x70 } []
    t.cpu.a = 0x0 ∧ t.cpu.f = 0x80 ∧ t.cpu.cycles = 4 := by
  decide

/-- Vector 41.15, `XOR (HL)` (R469). -/
theorem test_vector_41_15 :
    let t := ran [0xAE] { startCpu with a := 0xFF, h := 0xC0, l := 0x0 } [(0xC000, 0xF)]
    t.cpu.a = 0xF0 ∧ t.cpu.f = 0x0 ∧ t.cpu.cycles = 8 := by
  decide

/-- Vector 41.16, `OR H` (R471). -/
theorem test_vector_41_16 :
    let t := ran [0xB4] { startCpu with a := 0x0, h := 0x0, f := 0x70 } []
    t.cpu.a = 0x0 ∧ t.cpu.f = 0x80 ∧ t.cpu.cycles = 4 := by
  decide

/-- Vector 41.17, `OR 0x80` (R473). -/
theorem test_vector_41_17 :
    let t := ran [0xF6, 0x80] { startCpu with a := 0x1 } []
    t.cpu.a = 0x81 ∧ t.cpu.f = 0x0 ∧ t.cpu.cycles = 8 := by
  decide

/-- Vector 41.18, `CP B` (R474). -/
theorem test_vector_41_18 :
    let t := ran [0xB8] { startCpu with a := 0x42, b := 0x42 } []
    t.cpu.a = 0x42 ∧ t.cpu.f = 0xC0 ∧ t.cpu.cycles = 4 := by
  decide

/-- Vector 41.19, `CP 0x43` (R476). -/
theorem test_vector_41_19 :
    let t := ran [0xFE, 0x43] { startCpu with a := 0x42 } []
    t.cpu.f = 0x70 ∧ t.cpu.cycles = 8 := by
  decide

/-- Vector 41.20, `INC A` (R477). -/
theorem test_vector_41_20 :
    let t := ran [0x3C] { startCpu with a := 0xFF, f := 0x10 } []
    t.cpu.a = 0x0 ∧ t.cpu.f = 0xB0 ∧ t.cpu.cycles = 4 := by
  decide

/-- Vector 41.22, `INC (HL)` (R478). -/
theorem test_vector_41_22 :
    let t := ran [0x34] { startCpu with h := 0xC0, l := 0x0 } [(0xC000, 0x7F)]
    t.cpu.f = 0x20 ∧ read8 t 0xC000 = 0x80 ∧ t.cpu.cycles = 12 := by
  decide

/-- Vector 41.23, `DEC C` (R479). -/
theorem test_vector_41_23 :
    let t := ran [0x0D] { startCpu with c := 0x1 } []
    t.cpu.c = 0x0 ∧ t.cpu.f = 0xC0 ∧ t.cpu.cycles = 4 := by
  decide

/-- Vector 41.26, `DEC (HL)` (R480). -/
theorem test_vector_41_26 :
    let t := ran [0x35] { startCpu with h := 0xC0, l := 0x0 } [(0xC000, 0x0)]
    t.cpu.f = 0x60 ∧ read8 t 0xC000 = 0xFF ∧ t.cpu.cycles = 12 := by
  decide

/-- Vector 41.27, `DAA` (R481). -/
theorem test_vector_41_27 :
    let t := ran [0x27] { startCpu with a := 0x7D, f := 0x0 } []
    t.cpu.a = 0x83 ∧ t.cpu.f = 0x0 ∧ t.cpu.cycles = 4 := by
  decide

/-- Vector 41.31, `CPL` (R482). -/
theorem test_vector_41_31 :
    let t := ran [0x2F] { startCpu with a := 0x35, f := 0x90 } []
    t.cpu.a = 0xCA ∧ t.cpu.f = 0xF0 ∧ t.cpu.cycles = 4 := by
  decide

/-- Vector 41.32, `SCF` (R483). -/
theorem test_vector_41_32 :
    let t := ran [0x37] { startCpu with f := 0xE0 } []
    t.cpu.f = 0x90 ∧ t.cpu.cycles = 4 := by
  decide

/-- Vector 41.33, `CCF` (R484). -/
theorem test_vector_41_33 :
    let t := ran [0x3F] { startCpu with f := 0x70 } []
    t.cpu.f = 0x0 ∧ t.cpu.cycles = 4 := by
  decide

/-- Vector 42.1, `INC BC` (R500). -/
theorem test_vector_42_1 :
    let t := ran [0x03] { startCpu with b := 0xFF, c := 0xFF, f := 0x0 } []
    t.cpu.b = 0x0 ∧ t.cpu.c = 0x0 ∧ t.cpu.f = 0x0 ∧ t.cpu.cycles = 8 := by
  decide

/-- Vector 42.3, `DEC DE` (R501). -/
theorem test_vector_42_3 :
    let t := ran [0x1B] { startCpu with d := 0x0, e := 0x0, f := 0xF0 } []
    t.cpu.d = 0xFF ∧ t.cpu.e = 0xFF ∧ t.cpu.f = 0xF0 ∧ t.cpu.cycles = 8 := by
  decide

/-- Vector 42.4, `ADD HL,BC` (R502). -/
theorem test_vector_42_4 :
    let t := ran [0x09] { startCpu with h := 0xF, l := 0xFF, b := 0x0, c := 0x1, f := 0x80 } []
    t.cpu.h = 0x10 ∧ t.cpu.l = 0x0 ∧ t.cpu.f = 0xA0 ∧ t.cpu.cycles = 8 := by
  decide

/-- Vector 42.8, `ADD SP,0x08` (R503). -/
theorem test_vector_42_8 :
    let t := ran [0xE8, 0x08] { startCpu with sp := 0xFFF8 } []
    t.cpu.sp = 0x0 ∧ t.cpu.f = 0x30 ∧ t.cpu.cycles = 16 := by
  decide

/-- Vector 42.11, `LD HL,SP+-1` (R504). -/
theorem test_vector_42_11 :
    let t := ran [0xF8, 0xFF] { startCpu with sp := 0x0, f := 0xF0 } []
    t.cpu.h = 0xFF ∧ t.cpu.l = 0xFF ∧ t.cpu.f = 0x0 ∧ t.cpu.cycles = 12 := by
  decide

/-- Vector 43.1, `RLCA` (R530). -/
theorem test_vector_43_1 :
    let t := ran [0x07] { startCpu with a := 0x80 } []
    t.cpu.a = 0x1 ∧ t.cpu.f = 0x10 ∧ t.cpu.cycles = 4 := by
  decide

/-- Vector 43.3, `RRCA` (R531). -/
theorem test_vector_43_3 :
    let t := ran [0x0F] { startCpu with a := 0x1 } []
    t.cpu.a = 0x80 ∧ t.cpu.f = 0x10 ∧ t.cpu.cycles = 4 := by
  decide

/-- Vector 43.4, `RLA` (R532). -/
theorem test_vector_43_4 :
    let t := ran [0x17] { startCpu with a := 0x80, f := 0x0 } []
    t.cpu.a = 0x0 ∧ t.cpu.f = 0x10 ∧ t.cpu.cycles = 4 := by
  decide

/-- Vector 43.6, `RRA` (R533). -/
theorem test_vector_43_6 :
    let t := ran [0x1F] { startCpu with a := 0x1, f := 0x0 } []
    t.cpu.a = 0x0 ∧ t.cpu.f = 0x10 ∧ t.cpu.cycles = 4 := by
  decide

/-- Vector 43.7, `RLC B` (R535). -/
theorem test_vector_43_7 :
    let t := ran [0xCB, 0x00] { startCpu with b := 0x0, f := 0x10 } []
    t.cpu.b = 0x0 ∧ t.cpu.f = 0x80 ∧ t.cpu.cycles = 8 := by
  decide

/-- Vector 43.8, `RLC (HL)` (R536). -/
theorem test_vector_43_8 :
    let t := ran [0xCB, 0x06] { startCpu with h := 0xC0, l := 0x0 } [(0xC000, 0x81)]
    t.cpu.f = 0x10 ∧ read8 t 0xC000 = 0x3 ∧ t.cpu.cycles = 16 := by
  decide

/-- Vector 43.9, `RRC C` (R537). -/
theorem test_vector_43_9 :
    let t := ran [0xCB, 0x09] { startCpu with c := 0x1 } []
    t.cpu.c = 0x80 ∧ t.cpu.f = 0x10 ∧ t.cpu.cycles = 8 := by
  decide

/-- Vector 43.10, `RL D` (R539). -/
theorem test_vector_43_10 :
    let t := ran [0xCB, 0x12] { startCpu with d := 0x80, f := 0x0 } []
    t.cpu.d = 0x0 ∧ t.cpu.f = 0x90 ∧ t.cpu.cycles = 8 := by
  decide

/-- Vector 43.11, `RR E` (R541). -/
theorem test_vector_43_11 :
    let t := ran [0xCB, 0x1B] { startCpu with e := 0x1, f := 0x10 } []
    t.cpu.e = 0x80 ∧ t.cpu.f = 0x10 ∧ t.cpu.cycles = 8 := by
  decide

/-- Vector 43.12, `SLA H` (R543). -/
theorem test_vector_43_12 :
    let t := ran [0xCB, 0x24] { startCpu with h := 0xFF } []
    t.cpu.h = 0xFE ∧ t.cpu.f = 0x10 ∧ t.cpu.cycles = 8 := by
  decide

/-- Vector 43.13, `SRA L` (R545). -/
theorem test_vector_43_13 :
    let t := ran [0xCB, 0x2D] { startCpu with l := 0x81 } []
    t.cpu.l = 0xC0 ∧ t.cpu.f = 0x10 ∧ t.cpu.cycles = 8 := by
  decide

/-- Vector 43.14, `SWAP A` (R547). -/
theorem test_vector_43_14 :
    let t := ran [0xCB, 0x37] { startCpu with a := 0xF0, f := 0x10 } []
    t.cpu.a = 0xF ∧ t.cpu.f = 0x0 ∧ t.cpu.cycles = 8 := by
  decide

/-- Vector 43.15, `SWAP (HL)` (R548). -/
theorem test_vector_43_15 :
    let t := ran [0xCB, 0x36] { startCpu with h := 0xC0, l := 0x0 } [(0xC000, 0x0)]
    t.cpu.f = 0x80 ∧ read8 t 0xC000 = 0x0 ∧ t.cpu.cycles = 16 := by
  decide

/-- Vector 43.16, `SRL A` (R549). -/
theorem test_vector_43_16 :
    let t := ran [0xCB, 0x3F] { startCpu with a := 0x1 } []
    t.cpu.a = 0x0 ∧ t.cpu.f = 0x90 ∧ t.cpu.cycles = 8 := by
  decide

/-- Vector 43.17, `BIT 7,H` (R551). -/
theorem test_vector_43_17 :
    let t := ran [0xCB, 0x7C] { startCpu with h := 0x7F, f := 0x10 } []
    t.cpu.f = 0xB0 ∧ t.cpu.cycles = 8 := by
  decide

/-- Vector 43.18, `BIT 0,(HL)` (R552). -/
theorem test_vector_43_18 :
    let t := ran [0xCB, 0x46] { startCpu with h := 0xC0, l := 0x0, f := 0x40 } [(0xC000, 0x1)]
    t.cpu.f = 0x20 ∧ t.cpu.cycles = 12 := by
  decide

/-- Vector 43.19, `RES 0,(HL)` (R554). -/
theorem test_vector_43_19 :
    let t := ran [0xCB, 0x86] { startCpu with h := 0xC0, l := 0x0, f := 0xF0 } [(0xC000, 0xFF)]
    t.cpu.f = 0xF0 ∧ read8 t 0xC000 = 0xFE ∧ t.cpu.cycles = 16 := by
  decide

/-- Vector 43.20, `RES 7,A` (R553). -/
theorem test_vector_43_20 :
    let t := ran [0xCB, 0xBF] { startCpu with a := 0x80 } []
    t.cpu.a = 0x0 ∧ t.cpu.f = 0x0 ∧ t.cpu.cycles = 8 := by
  decide

/-- Vector 43.21, `SET 7,A` (R555). -/
theorem test_vector_43_21 :
    let t := ran [0xCB, 0xFF] { startCpu with a := 0x0 } []
    t.cpu.a = 0x80 ∧ t.cpu.f = 0x0 ∧ t.cpu.cycles = 8 := by
  decide

/-- Vector 43.22, `SET 3,(HL)` (R556). -/
theorem test_vector_43_22 :
    let t := ran [0xCB, 0xDE] { startCpu with h := 0xC0, l := 0x0 } [(0xC000, 0x0)]
    t.cpu.f = 0x0 ∧ read8 t 0xC000 = 0x8 ∧ t.cpu.cycles = 16 := by
  decide

/-- Vector 44.1, `JP 0x0150` (R571). -/
theorem test_vector_44_1 :
    let t := ran [0xC3, 0x50, 0x01] startCpu []
    t.cpu.pc = 0x150 ∧ t.cpu.f = 0x0 ∧ t.cpu.cycles = 16 := by
  decide

/-- Vector 44.2, `JP NZ,0x0150` (R572). -/
theorem test_vector_44_2 :
    let t := ran [0xC2, 0x50, 0x01] { startCpu with f := 0x80 } []
    t.cpu.pc = 0x103 ∧ t.cpu.f = 0x80 ∧ t.cpu.cycles = 12 := by
  decide

/-- Vector 44.4, `JP HL` (R573). -/
theorem test_vector_44_4 :
    let t := ran [0xE9] { startCpu with h := 0xC0, l := 0x0 } []
    t.cpu.pc = 0xC000 ∧ t.cpu.f = 0x0 ∧ t.cpu.cycles = 4 := by
  decide

/-- Vector 44.5, `JR +127` (R574). -/
theorem test_vector_44_5 :
    let t := ran [0x18, 0x7F] startCpu []
    t.cpu.pc = 0x181 ∧ t.cpu.f = 0x0 ∧ t.cpu.cycles = 12 := by
  decide

/-- Vector 44.8, `JR C,+5` (R575). -/
theorem test_vector_44_8 :
    let t := ran [0x38, 0x05] { startCpu with f := 0x10 } []
    t.cpu.pc = 0x107 ∧ t.cpu.f = 0x10 ∧ t.cpu.cycles = 8 := by
  decide

/-- Vector 44.10, `CALL 0x0200` (R576). -/
theorem test_vector_44_10 :
    let t := ran [0xCD, 0x00, 0x02] { startCpu with sp := 0xFFFE } []
    t.cpu.sp = 0xFFFC ∧ t.cpu.pc = 0x200 ∧ t.cpu.f = 0x0 ∧ read8 t 0xFFFC = 0x3 ∧ read8 t 0xFFFD = 0x1 ∧ t.cpu.cycles = 24 := by
  decide

/-- Vector 44.11, `CALL NC,0x0200` (R577). -/
theorem test_vector_44_11 :
    let t := ran [0xD4, 0x00, 0x02] { startCpu with sp := 0xFFFE, f := 0x10 } []
    t.cpu.pc = 0x103 ∧ t.cpu.sp = 0xFFFE ∧ t.cpu.f = 0x10 ∧ read8 t 0xFFFC = 0x0 ∧ read8 t 0xFFFD = 0x0 ∧ t.cpu.cycles = 12 := by
  decide

/-- Vector 44.12, `RET` (R578). -/
theorem test_vector_44_12 :
    let t := ran [0xC9] { startCpu with sp := 0xFFFC } [(0xFFFC, 0x53), (0xFFFD, 0x1)]
    t.cpu.sp = 0xFFFE ∧ t.cpu.pc = 0x153 ∧ t.cpu.f = 0x0 ∧ t.cpu.cycles = 16 := by
  decide

/-- Vector 44.13, `RET Z` (R579). -/
theorem test_vector_44_13 :
    let t := ran [0xC8] { startCpu with sp := 0xFFFC, f := 0x0 } [(0xFFFC, 0x53), (0xFFFD, 0x1)]
    t.cpu.pc = 0x101 ∧ t.cpu.sp = 0xFFFC ∧ t.cpu.f = 0x0 ∧ t.cpu.cycles = 8 := by
  decide

/-- Vector 44.15, `RETI` (R580). -/
theorem test_vector_44_15 :
    let t := ran [0xD9] { startCpu with sp := 0xFFFC, ime := false } [(0xFFFC, 0x0), (0xFFFD, 0x2)]
    t.cpu.sp = 0xFFFE ∧ t.cpu.pc = 0x200 ∧ t.cpu.ime = true ∧ t.cpu.f = 0x0 ∧ t.cpu.cycles = 16 := by
  decide

/-- Vector 44.16, `RST 0x38` (R581). -/
theorem test_vector_44_16 :
    let t := ran [0xFF] { startCpu with sp := 0xD000 } []
    t.cpu.sp = 0xCFFE ∧ t.cpu.pc = 0x38 ∧ t.cpu.f = 0x0 ∧ read8 t 0xCFFE = 0x1 ∧ read8 t 0xCFFF = 0x1 ∧ t.cpu.cycles = 16 := by
  decide

/-- Vector 45.1, `NOP` (R600). -/
theorem test_vector_45_1 :
    let t := ran [0x00] { startCpu with f := 0xF0 } []
    t.cpu.pc = 0x101 ∧ t.cpu.f = 0xF0 ∧ t.cpu.cycles = 4 := by
  decide

/-- Vector 45.2, `HALT` (`45_system.md` R601). -/
theorem test_vector_45_2 :
    let t := ran [0x76] startCpu []
    t.cpu.pc = 0x101 ∧ t.cpu.halted = true ∧ t.cpu.f = 0x0 ∧ t.cpu.cycles = 4 := by
  decide

/-- Vector 45.3, `STOP` (R602). -/
theorem test_vector_45_3 :
    let t := ran [0x10, 0x00] startCpu []
    t.cpu.pc = 0x102 ∧ t.cpu.stopped = true ∧ t.cpu.f = 0x0 ∧ t.cpu.cycles = 4 := by
  decide

/-- Vector 45.4, `DI` (R603). -/
theorem test_vector_45_4 :
    let t := ran [0xF3] { startCpu with ime := true } []
    t.cpu.pc = 0x101 ∧ t.cpu.ime = false ∧ t.cpu.f = 0x0 ∧ t.cpu.cycles = 4 := by
  decide

/-- Vector 45.5, `EI` (R604). -/
theorem test_vector_45_5 :
    let t := ran [0xFB] { startCpu with ime := false } []
    t.cpu.pc = 0x101 ∧ t.cpu.ime = true ∧ t.cpu.f = 0x0 ∧ t.cpu.cycles = 4 := by
  decide

/-- Vector 45.6, `(unused 0xD3)` (R606). -/
theorem test_vector_45_6 :
    let t := ran [0xD3] { startCpu with f := 0xF0 } []
    t.cpu.pc = 0x101 ∧ t.cpu.f = 0xF0 ∧ t.cpu.cycles = 4 := by
  decide

/-- W7 (R765): at TIMA = 0xFF an enabled timer reloads TMA and requests the Timer interrupt after one period. -/
theorem test_timer_overflow :
    let s := { State.reset with timer := { div := 0, tima := 0xFF, tma := 0x42, tac := 5, divCounter := 0, timaCounter := 0 } }
    (timerStep 16 s).timer.tima = 0x42 ∧ (timerStep 16 s).ic.reqs = 4 ∧ (timerStep 15 s).timer.tima = 0xFF := by decide

/-- R704 to R706: of two pending sources the lower-numbered is served, and the other stays pending. -/
theorem test_priority :
    let s := { State.reset with cpu.ime := true, ic.ie := 0x1F, ic.reqs := 0x14 }
    (checkAndDispatch s).cpu.pc = 0x0050 ∧ (checkAndDispatch s).ic.reqs = 0x10 ∧ (checkAndDispatch s).cpu.ime = false := by decide

/-- R707: PC is pushed, low byte at the lower address. -/
theorem test_dispatch_pushes_pc :
    let t := dispatch .vblank { State.reset with cpu := { State.resetCpu with ime := true, pc := 0x1234, sp := 0xD000 } }
    read8 t 0xCFFE = 0x34 ∧ read8 t 0xCFFF = 0x12 ∧ t.cpu.sp = 0xCFFE ∧ t.cpu.pc = 0x0040 := by decide

/-- R802: 79 cycles stay in mode 2, the 80th begins mode 3. -/
theorem test_ppu_oam_end : (ppuStep 79 State.reset).ppu.mode = .oam ∧ (ppuStep 80 State.reset).ppu.mode = .vram := by decide

/-- R207, R212: in mode 3 a store to VRAM is dropped and a read is not. -/
theorem test_vram_lock :
    let s := { State.reset with ppu.mode := .vram, ppu.vram := [(0, 0x5A)] }
    read8 (write8 0x8000 0x11 s) 0x8000 = 0x5A := by decide

/-- W5 (R274): MBC1 bank 0 becomes bank 1. -/
theorem test_mbc1_zero :
    let s := { State.reset with cart := { State.resetCart with kind := .mbc1, romBank := 5 } }
    (write8 0x2000 0x00 s).cart.romBank = 1 ∧ (write8 0x2000 0x20 s).cart.romBank = 1 := by decide

/-- R271: an MBC2 entry is a nibble, at every alias of its address. -/
theorem test_mbc2_alias :
    let s := { State.reset with cart := { State.resetCart with kind := .mbc2, ramEnabled := true, ramLen := 512 } }
    read8 (write8 0xA1FF 0xAB s) 0xBFFF = 0x0B := by decide

/-- R141: with the direction buttons selected, Up pressed reads as bit 2 clear. -/
theorem test_joypad_read :
    let s := press .up { State.reset with joy := { State.reset.joy with selAction := true } }
    read8 s 0xFF00 = 0xEB ∧ s.ic.reqs = 0x10 := by decide

/-- R825: palette 0xE4 maps each index to itself. -/
theorem test_shade : shade 0xE4 0 = 0 ∧ shade 0xE4 1 = 1 ∧ shade 0xE4 2 = 2 ∧ shade 0xE4 3 = 3 := by decide

/-- R823: the signed tile numbering reaches 0x8800 at 0x80, 0x9000 at 0x00 and 0x97F0 at 0x7F. -/
theorem test_tileBase : tileBase 0x80 false = 0x8800 ∧ tileBase 0x00 false = 0x9000 ∧ tileBase 0x7F false = 0x97F0 ∧
    tileBase 0xFF true = 0x8FF0 := by decide

/-- R829: a sprite with Y = 16 covers lines 0 to 7. -/
theorem test_sprite_lines :
    let p := { State.resetPpu with oam := [(0, 16), (1, 8)] }
    spriteCovers p 0 0 = true ∧ spriteCovers p 7 0 = true ∧ spriteCovers p 8 0 = false := by decide

/-- R910: a paused scheduler does nothing; otherwise NOP costs 4 cycles and PC moves on. -/
theorem test_step :
    (stateOf (step State.reset) State.reset).cpu.pc = 0x0101 ∧ (stateOf (step State.reset) State.reset).sched.frameCycles = 4 := by
  decide

/-- withFetchWord places the table word where the next step fetches it. -/
theorem test_withFetchWord :
    fetchInstr (State.reset.withFetchWord 16 0xCBC7) = .set0A ∧ fetchInstr (State.reset.withFetchWord 8 0x01) = .ldBcD16 0 ∧
    fetchInstr (State.reset.withFetchWord 8 0xCB) = .rlcB := by decide

/-- The memories of the reset state are in canonical form. -/
theorem test_reset_memory : State.resetSound.wf = true ∧ State.resetCart.rom.wf = true ∧ State.resetPpu.vram.wf = true := by decide

/-! ### Witnesses: for each obligation with hypotheses, states and operands that meet them -/

/-- A state at work: registers changed, the timer running, an MBC1 cartridge, some memory. -/
def busy : State :=
  { State.reset with
    cpu := { State.resetCpu with a := 0x12, ime := true, sp := 0xCFF0, cycles := 1000 }
    timer := { div := 3, tima := 0xFE, tma := 0x10, tac := 5, divCounter := 17, timaCounter := 9 }
    cart := { State.resetCart with kind := .mbc1, romBank := 0x23, ramEnabled := true, ramLen := 0x2000, ram := [(5, 0x77)] }
    wram := [(0x10, 0xAB), (0x20, 0x01)]
    hram := [(126, 0xFF)]
    sched := { State.reset.sched with frameCycles := 5000 } }

theorem frame_rows (n m : Nat) : ∀ row ∈ List.replicate n (List.replicate m (0 : Shade)), row.length = m := by
  intro row h
  rw [List.eq_of_mem_replicate h]
  exact List.length_replicate

theorem busy_ppu : PpuInv busy.ppu := by
  refine ⟨by decide, by decide, by decide, by decide, ⟨by decide, by decide⟩, ⟨by decide, by decide⟩, ?_, frame_rows 144 160, ?_, ?_⟩
  · show (List.replicate 144 (List.replicate 160 (0 : Shade))).length = 144
    exact List.length_replicate
  · show (List.replicate 160 (0 : Shade)).length = 160
    exact List.length_replicate
  · show (List.replicate 160 false).length = 160
    exact List.length_replicate

/-- The invariant has a state, with the display on, a bank selected and the timer running. -/
theorem busy_inv : busy.Inv := by
  refine ⟨⟨by decide, rfl, by decide, by decide, busy_ppu, ⟨?_, ⟨by decide, by decide⟩, ⟨by decide, by decide⟩⟩, by decide,
    ⟨by decide, by decide⟩, ⟨by decide, by decide⟩, rfl, by decide⟩, by decide, rfl, by decide⟩
  show 1 ≤ (0x23 : BitVec 9).toNat % 0x20 ∧ (0x23 : BitVec 9).toNat < 0x80 ∧ (0 : BitVec 4).toNat < 4
  decide

theorem busy_steps : ∃ t, step busy = .next t := ⟨_, rfl⟩

theorem witness_DecodeOfEncode : (Instr.callA16 0xFFFF).wellFormed = true ∧ Instr.stop.wellFormed = true ∧
    Instr.set7A.wellFormed = true := by decide

theorem witness_DecoderIsTotal : (0x10 : Byte) = 0x10 ∧ (0x11 : Byte) ≠ 0x10 ∧ (0xCB : Byte) ≠ 0x10 := by decide

theorem witness_LengthFixedByFirstByte :
    (Instr.jpA16 0x0000).wellFormed = true ∧ (Instr.jpA16 0xFFFF).wellFormed = true ∧
    (encode .two (.jpA16 0x0000)).head? = (encode .two (.jpA16 0xFFFF)).head? ∧ (encode .two .bit0B).head? = some 0xCB := by decide

/-- A three-byte instruction at the last bytes of a work-RAM page, and STOP, whose second byte is not looked at. -/
theorem witness_StepRunsTheFetchedInstruction :
    let s := start [0xC3, 0x50, 0x01] startCpu []
    s.sched.runState ≠ .paused ∧ s.cpu.halted = false ∧ s.cpu.stopped = false ∧ (Instr.jpA16 0x0150).wellFormed = true ∧
    (∀ k < (Instr.jpA16 0x0150).length s.cfg.stopLength,
      some (read8 s (s.cpu.pc + BitVec.ofNat 16 k)) = (encode s.cfg.stopLength (.jpA16 0x0150))[k]? ∨
        (Instr.jpA16 0x0150 = .stop ∧ k = 1)) ∧
    ∃ t, exec (.jpA16 0x0150)
      { s with cpu.pc := s.cpu.pc + BitVec.ofNat 16 ((Instr.jpA16 0x0150).length s.cfg.stopLength) } = .next t := by
  refine ⟨by decide, rfl, rfl, rfl, ?_, _, rfl⟩
  decide

theorem witness_StepRunsStop :
    let s := start [0x10, 0x77] startCpu []
    ∀ k < Instr.stop.length s.cfg.stopLength,
      some (read8 s (s.cpu.pc + BitVec.ofNat 16 k)) = (encode s.cfg.stopLength .stop)[k]? ∨ (Instr.stop = .stop ∧ k = 1) := by
  decide

theorem witness_IdleStepFetchesNothing :
    ({ State.reset with sched.runState := .paused } : State).sched.runState = .paused ∧
    (State.reset.sched.runState ≠ .paused ∧ (haltCpu State.reset).cpu.halted = true) ∧
    (State.reset.sched.runState ≠ .paused ∧ (stopCpu State.reset).cpu.stopped = true) := by decide

theorem witness_DecimalAdjustGivesBcd : (99 < 100 ∧ 1 < 100 ∧ ({ busy with cpu.a := 0x99 } : State).cpu.a = bcdByte 99) ∧
    (0 < 100 ∧ 99 < 100 ∧ ({ busy with cpu.a := 0 } : State).cpu.a = bcdByte 0) := by decide

theorem witness_RotateA : Instr.rotA .rlc = some .rlca ∧ Instr.rotA .rrc = some .rrca ∧ Instr.rotA .rl = some .rla ∧
    Instr.rotA .rr = some .rra := by decide

/-- The condition Z holds with F = 0x80 and fails with F = 0. -/
theorem witness_CallsAndRestarts : flagZ { busy with cpu.f := 0x80 } = true ∧ flagZ { busy with cpu.f := 0 } = false ∧
    (!flagZ { busy with cpu.f := 0 }) = true ∧ flagC { busy with cpu.f := 0x10 } = true := by decide

theorem witness_TakingAnInterrupt : busy.cpu.ime = true ∧ State.reset.cpu.ime = false := by decide

theorem witness_DispatchCheck :
    let s := { busy with ic.ie := 0x11, ic.reqs := 0x10 }
    State.reset.cpu.ime = false ∧
    (∀ b : IntSource, (busy.ic.ie.getLsbD b.bit && busy.ic.reqs.getLsbD b.bit) = false) ∧
    (s.cpu.ime = true ∧ (s.ic.ie.getLsbD IntSource.joypad.bit && s.ic.reqs.getLsbD IntSource.joypad.bit) = true ∧
      ∀ c : IntSource, c.bit < IntSource.joypad.bit → (s.ic.ie.getLsbD c.bit && s.ic.reqs.getLsbD c.bit) = false) := by
  refine ⟨rfl, ?_, rfl, rfl, ?_⟩
  · intro b; cases b <;> rfl
  · intro c; cases c <;> decide

theorem witness_RequestsAndButtons : (press .a State.reset).joy.pressed .a = true ∧ State.reset.joy.pressed .a = false := by decide

/-- Each clause at the ends of its range. -/
theorem witness_StoredByteReadsBack :
    let s := { busy with ppu.mode := .hblank }
    (0xC000 ≤ (0xC000 : Word).toNat ∧ (0xC000 : Word).toNat < 0xFE00) ∧ (0xFDFF : Word).toNat < 0xFE00 ∧
    0xFF80 ≤ (0xFF80 : Word).toNat ∧ 0xFF80 ≤ (0xFFFF : Word).toNat ∧
    (0x8000 ≤ (0x9FFF : Word).toNat ∧ (0x9FFF : Word).toNat < 0xA000 ∧ s.ppu.mode ≠ .vram) ∧
    (0xFE00 ≤ (0xFE9F : Word).toNat ∧ (0xFE9F : Word).toNat < 0xFEA0 ∧ s.ppu.mode ≠ .oam) ∧
    (0xA000 ≤ (0xBFFF : Word).toNat ∧ (0xBFFF : Word).toNat < 0xC000 ∧
      (extKey s.cart ((0xBFFF : Word).toNat - 0xA000)).isSome = true) := by decide

theorem witness_EchoAndDroppedWrites :
    let s := { busy with ppu.mode := .vram }
    (0xE000 ≤ (0xE000 : Word).toNat ∧ (0xFDFF : Word).toNat < 0xFE00) ∧
    (0xFEA0 ≤ (0xFEA0 : Word).toNat ∧ (0xFEFF : Word).toNat < 0xFF00) ∧
    (0x8000 ≤ (0x8000 : Word).toNat ∧ (0x9FFF : Word).toNat < 0xA000 ∧ s.ppu.mode = .vram) ∧
    (0xFE00 ≤ (0xFE00 : Word).toNat ∧ (0xFE9F : Word).toNat < 0xFEA0 ∧ busy.ppu.mode = .oam) := by decide

theorem witness_IoRegisterReadBack :
    (0x03 : Byte).getLsbD 2 = false ∧ (0xFF10 ≤ (0xFF26 : Word).toNat ∧ (0xFF26 : Word).toNat ≤ 0xFF26) ∧
    (0xFF30 ≤ (0xFF3F : Word).toNat ∧ (0xFF3F : Word).toNat ≤ 0xFF3F) ∧
    (0xFF01 ≤ (0xFF03 : Word).toNat ∧ (0xFF03 : Word).toNat ≤ 0xFF03) ∧
    (0xFF08 ≤ (0xFF0E : Word).toNat ∧ (0xFF0E : Word).toNat ≤ 0xFF0E) ∧
    (0xFF27 ≤ (0xFF2F : Word).toNat ∧ (0xFF2F : Word).toNat ≤ 0xFF2F) ∧
    (0xFF4C ≤ (0xFF7F : Word).toNat ∧ (0xFF7F : Word).toNat ≤ 0xFF7F) := by decide

theorem witness_OamDmaCopy : busy.ppu.mode = .oam ∧ ({ busy with ppu.mode := .hblank } : State).ppu.mode = .hblank ∧ 159 < 160 := by
  decide

theorem witness_CartridgeReads :
    ((0x3FFF : Word).toNat < 0x4000) ∧ (0x4000 ≤ (0x7FFF : Word).toNat ∧ (0x7FFF : Word).toNat < 0x8000) ∧
    (0xA000 ≤ (0xBFFF : Word).toNat ∧ (0xBFFF : Word).toNat < 0xC000 ∧ busy.cart.kind ≠ .mbc2) ∧
    (0xA000 ≤ (0xA000 : Word).toNat ∧ (0xA000 : Word).toNat < 0xC000 ∧
      ({ busy with cart.kind := .mbc2 } : State).cart.kind = .mbc2) := by decide

theorem witness_BankRegisterWrites :
    (0x7FFF : Word).toNat < 0x8000 ∧ (0x1FFF : Word).toNat < 0x2000 ∧ 0x2000 ≤ (0x2000 : Word).toNat ∧
    ((0x2FFF : Word).toNat < 0x3000 ∧ 0x3000 ≤ (0x3000 : Word).toNat) ∧
    ((0x3EFF : Word).toNat < 0x4000 ∧ (0x3EFF : Word).toNat / 256 % 2 = 0 ∧ (0x3FFF : Word).toNat / 256 % 2 = 1) ∧
    (0x4000 ≤ (0x5FFF : Word).toNat ∧ (0x5FFF : Word).toNat < 0x6000 ∧ 0x6000 ≤ (0x6000 : Word).toNat) ∧
    (busy.cart.bankingMode = false ∧ ({ busy with cart.bankingMode := true } : State).cart.bankingMode = true) ∧
    (∀ k : MbcKind, ({ busy with cart.kind := k } : State).cart.kind = k) := by
  refine ⟨by decide, by decide, by decide, by decide, by decide, by decide, by decide, fun _ => rfl⟩

theorem witness_TimerTickAndRates :
    busy.timer.divCounter < 256 ∧ timerEnabled State.reset.timer.tac = false ∧
    (timerEnabled busy.timer.tac = true ∧ ({ busy with timer.timaCounter := 0 } : State).timer.timaCounter = 0) ∧
    ({ busy with timer.tima := 0xFF } : State).timer.tima = 0xFF ∧ busy.timer.tima ≠ 0xFF := by decide

theorem witness_PpuStepAdds : busy.ppu.acc < busy.ppu.mode.length ∧
    ({ busy with ppu.acc := 79 } : State).ppu.acc < ({ busy with ppu.acc := 79 } : State).ppu.mode.length := by decide

theorem witness_PpuModeTransitions : ∀ m : PpuMode, ({ busy with ppu.mode := m } : State).ppu.mode = m := fun _ => rfl

theorem witness_PpuLineOf456Cycles :
    (displayOn busy = true ∧ busy.ppu.mode = .oam ∧ busy.ppu.acc = 0 ∧ busy.ppu.ly = 0) ∧
    ({ busy with ppu.ly := 142 } : State).ppu.ly.toNat < 143 := by decide

theorem witness_DisplayEnableAndDisable :
    (busy.ppu.lcdc.getLsbD 7 = true ∧ (0x11 : Byte).getLsbD 7 = false) ∧
    (({ busy with ppu.lcdc := 0x11 } : State).ppu.lcdc.getLsbD 7 = false ∧ (0x91 : Byte).getLsbD 7 = true) ∧
    busy.ppu.lcdc.getLsbD 7 = (0x80 : Byte).getLsbD 7 := by decide

theorem witness_RenderedLine :
    (1 ≠ 0 ∧ 143 < State.resetPpu.frame.length) ∧
    (({ State.resetPpu with lcdc := 0x80 } : Ppu).lcdc.getLsbD 0 = false ∧
      ({ State.resetPpu with lcdc := 0x80 } : Ppu).lcdc.getLsbD 1 = false) ∧
    (State.resetPpu.lcdc.getLsbD 0 = true ∧ State.resetPpu.lcdc.getLsbD 1 = false ∧ State.resetPpu.lcdc.getLsbD 5 = false ∧
      State.resetPpu.lcdc.getLsbD 4 = true) ∧
    selectedSprites { State.resetPpu with oam := [(0, 16), (4, 17)] } 3 = [0, 1] ∧
    (143 < 144 ∧ State.resetPpu.frame.length = 144 ∧ (∀ row ∈ State.resetPpu.frame, row.length = 160) ∧
      State.resetPpu.bgIndex.length = 160 ∧ State.resetPpu.objOwned.length = 160) := by
  have hf : State.resetPpu.frame.length = 144 := List.length_replicate
  refine ⟨⟨by decide, by rw [hf]; decide⟩, by decide, by decide, by decide, by decide, hf, ?_, List.length_replicate, List.length_replicate⟩
  intro row h
  rw [List.eq_of_mem_replicate h, List.length_replicate]

theorem witness_ResetTable : (0x8000 ≤ (0x9FFF : Word).toNat ∧ (0x9FFF : Word).toNat < 0xA000) ∧
    (0xC000 ≤ (0xDFFF : Word).toNat ∧ (0xDFFF : Word).toNat < 0xE000) ∧
    (0xFE00 ≤ (0xFE9F : Word).toNat ∧ (0xFE9F : Word).toNat < 0xFEA0) ∧
    (0xFF80 ≤ (0xFFFE : Word).toNat ∧ (0xFFFE : Word).toNat < 0xFFFF) ∧
    (0xFF30 ≤ (0xFF3F : Word).toNat ∧ (0xFF3F : Word).toNat ≤ 0xFF3F) ∧
    (0xFF01 ≤ (0xFF03 : Word).toNat ∧ (0xFF03 : Word).toNat ≤ 0xFF03) ∧
    (0xFF08 ≤ (0xFF0E : Word).toNat ∧ (0xFF0E : Word).toNat ≤ 0xFF0E) ∧
    (0xFF27 ≤ (0xFF2F : Word).toNat ∧ (0xFF2F : Word).toNat ≤ 0xFF2F) ∧
    (0xFF4C ≤ (0xFF7F : Word).toNat ∧ (0xFF7F : Word).toNat ≤ 0xFF7F) := by decide

/-- Images of 0x7FFF bytes, of 0x8000 bytes of type 0x04, and of 0x8000 bytes of type 0x01. -/
theorem witness_LoadRomChecksFirst :
    (List.replicate 0x7FFF (0 : Byte)).length < 0x8000 ∧
    (0x8000 ≤ (List.replicate 0x8000 (4 : Byte)).length ∧ kindOfType ((List.replicate 0x8000 (4 : Byte)).getD 0x147 0) = none) ∧
    (busy.cfg.valid = true ∧ 0x8000 ≤ (List.replicate 0x8000 (1 : Byte)).length ∧
      kindOfType ((List.replicate 0x8000 (1 : Byte)).getD 0x147 0) = some .mbc1) := by
  have h : ∀ b : Byte, (List.replicate 0x8000 b).getD 0x147 0 = b := by
    intro b
    rw [List.getD_eq_getElem?_getD, List.getElem?_replicate]
    rfl
  rw [h, h]
  refine ⟨?_, ⟨?_, by decide⟩, by decide, ?_, by decide⟩ <;> simp only [List.length_replicate] <;> decide

theorem busy_saveable : Saveable busy :=
  ⟨busy_inv.mid.fLowNibble, by decide, busy_inv.mid.ppu.accBound, busy_inv.mid.ppu.lyBound, busy_inv.mid.sound⟩

/-- A record passes every check; one a byte short does not. -/
theorem test_record_checks : recordError busy.cfg (saveState 0 busy) = none ∧
    recordError busy.cfg ((saveState 0 busy).take 108) = some .badLength := by decide

/-- A state a record holds, in the middle of VBlank of the last line too, and a record that loads. -/
theorem witness_SaveThenLoadKeepsState :
    Saveable busy ∧ Saveable { busy with ppu.mode := .vblank, ppu.ly := 153, ppu.acc := 455 } ∧ busy.sound.wf = true ∧
    (32 ≤ 57 ∧ 57 < 109 ∧ 57 ∉ [58, 77, 78, 106]) ∧ (43 ≤ 48 ∧ 79 ≤ 86) ∧
    (∃ t, loadState (saveState 0 busy) busy = .ok t) := by
  refine ⟨busy_saveable, ⟨busy_saveable.fLowNibble, busy_saveable.cyclesFit, by decide, by decide, busy_saveable.sound⟩,
    busy_saveable.sound, by decide, by decide, applyRecord (saveState 0 busy) busy, ?_⟩
  simp only [loadState, test_record_checks.1]

theorem witness_FrameEndTest :
    ({ busy with ppu.frameReady := true } : State).ppu.frameReady = true ∧
    (busy.ppu.frameReady = false ∧ 70224 ≤ ({ busy with sched.frameCycles := 70224 } : State).sched.frameCycles) ∧
    (busy.ppu.frameReady = false ∧ ({ busy with sched.frameCycles := 70223 } : State).sched.frameCycles < 70224) := by decide

theorem witness_FrameEndsWithinBudget : busy.cfg.valid = true := by decide

theorem witness_StepKeepsTheInvariant : busy.Inv ∧ ∃ t, step busy = .next t := ⟨busy_inv, busy_steps⟩

theorem witness_StepKeepsHostOwnedState : (∃ t, step busy = .next t) ∧ busy.sched.runState ≠ .paused ∧ busy.cfg.valid = true :=
  ⟨busy_steps, by decide, by decide⟩

end Sys2Proof.Tests
end

section
/-! F as the flag operations write it (10_state.md R102, R103). -/

namespace Sys2Proof.Machine

/-- Where F holds each flag (R103). -/
theorem packFlags_bits (fl : Flags) :
    (packFlags fl).getLsbD 7 = fl.z ∧ (packFlags fl).getLsbD 6 = fl.n ∧ (packFlags fl).getLsbD 5 = fl.h ∧
      (packFlags fl).getLsbD 4 = fl.c := by
  obtain ⟨z, n, h, c⟩ := fl
  revert z n h c
  decide

theorem masked_highNibble (v : Byte) : v &&& 0xF0 &&& 0xF0 = v &&& 0xF0 := by
  rw [BitVec.and_assoc, BitVec.and_self]

/-- Settles O24: the four bits one by one, and the mask of R102. -/
theorem flagBitsOfF : Obligations.FlagBitsOfF := by
  refine ⟨fun fl => ?_, fun v s => ⟨masked_lowNibble v, masked_highNibble v⟩, flagsOf_setFlags⟩
  obtain ⟨hz, hn, hh, hc⟩ := packFlags_bits fl
  exact ⟨hz, hn, hh, hc, packFlags_lowNibble fl⟩

end Sys2Proof.Machine
end

section
/-! What an I/O register reads after a write to it (10_state.md R165): one lemma for the rows that keep the whole byte, one for each
row that does not. -/

namespace Sys2Proof.Machine

theorem regionOf_ioBlock {a : Nat} (h1 : 0xFF00 ≤ a) (h2 : a < 0xFF80) : regionOf a = .io (ioRegOf a) :=
  (regionOf_io_iff a _).2 ⟨h1, h2, rfl⟩

/-- A read in the I/O block after a write of the same address, by its row. -/
theorem read8_write8_io {a : Word} {r : IoReg} (ha : regionOf a.toNat = .io r) (v : Byte) (s : State) :
    read8 (write8 a v s) a = ioRead (ioWrite v s r) r := by
  unfold read8 write8
  rw [ha]
  rfl

/-- The rows that keep every bit of the byte written (R165). -/
def IoReg.holdsByte : IoReg → Bool
  | .tima | .tma | .sound _ | .lcdc | .scy | .scx | .lyc | .dma | .bgp | .obp0 | .obp1 | .wy | .wx => true
  | .joyp | .div | .tac | .iflag | .stat | .ly | .unlisted => false

/-- A write of LCDC stores the byte, whatever it does to the display (R121, R810, R811). -/
theorem lcdcWrite_lcdc (v : Byte) (s : State) : (lcdcWrite v s).ppu.lcdc = v := by
  unfold lcdcWrite
  dsimp only
  split <;> simp

/-- The DMA register keeps the byte that starts the copy (R126). -/
theorem dmaWrite_dma (v : Byte) (s : State) : (dmaWrite v s).ppu.dma = v := by rw [dmaWrite_rest]

theorem ioRead_ioWrite_same {r : IoReg} (hr : r.holdsByte = true) (v : Byte) (s : State) : ioRead (ioWrite v s r) r = v := by
  cases r with
  | joyp | div | tac | iflag | stat | ly | unlisted => cases hr
  | sound a => exact Memory.read_write_same s.sound a v
  | lcdc => exact lcdcWrite_lcdc v s
  | dma => simp only [ioRead, ioWrite, dmaWrite_dma]
  | tima | tma | scy | scx | lyc | bgp | obp0 | obp1 | wy | wx => rfl

theorem read8_write8_holdsByte {a : Word} (h1 : 0xFF00 ≤ a.toNat) (h2 : a.toNat < 0xFF80)
    (hr : (ioRegOf a.toNat).holdsByte = true) (v : Byte) (s : State) : read8 (write8 a v s) a = v := by
  rw [read8_write8_io (regionOf_ioBlock h1 h2), ioRead_ioWrite_same hr]

theorem ioRegOf_sound_block : ∀ k < 128, 0x10 ≤ k ∧ k ≤ 0x26 ∨ 0x30 ≤ k ∧ k ≤ 0x3F → ioRegOf (0xFF00 + k) = .sound (0xFF00 + k) := by
  decide

/-- The addresses of the sound registers and wave RAM (R145). -/
theorem ioRegOf_sound {a : Nat} (h : 0xFF10 ≤ a ∧ a ≤ 0xFF26 ∨ 0xFF30 ≤ a ∧ a ≤ 0xFF3F) : ioRegOf a = .sound a := by
  obtain ⟨k, rfl⟩ := Nat.exists_eq_add_of_le (show 0xFF00 ≤ a by omega)
  exact ioRegOf_sound_block k (by omega) (by omega)

theorem ioRegOf_unlisted_block : ∀ k < 128, 0x01 ≤ k ∧ k ≤ 0x03 ∨ 0x08 ≤ k ∧ k ≤ 0x0E ∨ 0x27 ≤ k ∧ k ≤ 0x2F ∨ 0x4C ≤ k →
    ioRegOf (0xFF00 + k) = .unlisted := by
  decide

/-- The open-bus addresses of the block (R165). -/
theorem ioRegOf_unlisted {a : Nat} (h : 0xFF01 ≤ a ∧ a ≤ 0xFF03 ∨ 0xFF08 ≤ a ∧ a ≤ 0xFF0E ∨ 0xFF27 ≤ a ∧ a ≤ 0xFF2F ∨
    0xFF4C ≤ a ∧ a ≤ 0xFF7F) : ioRegOf a = .unlisted := by
  obtain ⟨k, rfl⟩ := Nat.exists_eq_add_of_le (show 0xFF00 ≤ a by omega)
  exact ioRegOf_unlisted_block k (by omega) (by omega)

theorem lowHalf_highNibble (v : Byte) : 0x0F &&& v &&& 0xF0 = 0 := by
  rw [BitVec.and_comm 0x0F v, BitVec.and_assoc]; simp

/-- JOYP's high nibble: bits 7 and 6 set, and the two select bits; the buttons are in the low nibble (R141). -/
theorem joypRead_highNibble (j : Joypad) :
    joypRead j &&& 0xF0 = 0xC0 ||| (if j.selAction then 0x20 else 0) ||| (if j.selDir then 0x10 else 0) := by
  have h (p q : Byte) : (0x0F &&& p &&& q) &&& 0xF0 = 0 := by rw [BitVec.and_assoc 0x0F p q]; exact lowHalf_highNibble _
  unfold joypRead
  cases j.selAction <;> cases j.selDir <;>
    simp only [Bool.false_eq_true, if_true, if_false, BitVec.and_or_distrib_right, h, lowHalf_highNibble] <;> decide

theorem ioWrite_joyp_read (v : Byte) (s : State) : ioRead (ioWrite v s .joyp) .joyp &&& 0xF0 = 0xC0 ||| (v &&& 0x30) := by
  refine (joypRead_highNibble (joypWrite s.joy v)).trans ?_
  show 0xC0 ||| (if bitOf v 5 then 0x20 else 0) ||| (if bitOf v 4 then 0x10 else 0) = 0xC0 ||| (v &&& 0x30)
  revert v
  decide

/-- TAC keeps three bits, and reads the others as 1 (R116). -/
theorem ioWrite_tac_read (v : Byte) (s : State) : ioRead (ioWrite v s .tac) .tac = 0xF8 ||| v := by
  show 0xF8 ||| (v.setWidth 3).setWidth 8 = 0xF8 ||| v
  revert v
  decide

/-- IF keeps five bits, and reads the others as 1 (R110). -/
theorem ioWrite_iflag_read (v : Byte) (s : State) : ioRead (ioWrite v s .iflag) .iflag = 0xE0 ||| v := by
  show 0xE0 ||| (v.setWidth 5).setWidth 8 = 0xE0 ||| v
  revert v
  decide

/-- STAT's low three bits are the coincidence bit and the mode (R122). -/
theorem statRead_low (p : Ppu) : statRead p &&& 0x07 = (if p.coincidence then 4 else 0) ||| p.mode.code.setWidth 8 := by
  unfold statRead
  generalize p.statEnables = e
  cases p.coincidence <;> cases p.mode <;> revert e <;> decide

/-- STAT takes bits 6..3 of the byte and keeps its low three (R122). -/
theorem ioWrite_stat_read (v : Byte) (s : State) :
    ioRead (ioWrite v s .stat) .stat = 0x80 ||| (v &&& 0x78) ||| (ioRead s .stat &&& 0x07) := by
  have hv : (v.extractLsb' 3 4).setWidth 8 <<< 3 = v &&& 0x78 := by revert v; decide
  show statRead { s.ppu with statEnables := v.extractLsb' 3 4 } = 0x80 ||| (v &&& 0x78) ||| (statRead s.ppu &&& 0x07)
  rw [statRead_low, statRead, hv, BitVec.or_assoc]
  rfl

/-- Turning the timer off clears TIMA's sub-counter (R764). -/
theorem tacWrite_off {v : Byte} (h : v.getLsbD 2 = false) (s : State) : (tacWrite v s).timer.timaCounter = 0 := by
  unfold tacWrite bitOf
  rw [h]
  rfl

/-- Settles O43, row by row of R165. -/
theorem ioRegisterReadBack : Obligations.IoRegisterReadBack := by
  intro v s
  have hjoyp : regionOf (0xFF00 : Word).toNat = .io .joyp := rfl
  have hdiv : regionOf (0xFF04 : Word).toNat = .io .div := rfl
  have htac : regionOf (0xFF07 : Word).toNat = .io .tac := rfl
  have hif : regionOf (0xFF0F : Word).toNat = .io .iflag := rfl
  have hstat : regionOf (0xFF41 : Word).toNat = .io .stat := rfl
  refine ⟨?joyp, ⟨?div, rfl⟩, ⟨?tac, fun hoff => tacWrite_off hoff s⟩, ?iflag, ?stat, ?whole, ?sound, ?unlisted⟩
  case joyp => rw [read8_write8_io hjoyp, ioWrite_joyp_read]
  case div => exact read8_write8_io hdiv v s
  case tac => rw [read8_write8_io htac, ioWrite_tac_read]
  case iflag => rw [read8_write8_io hif, ioWrite_iflag_read]
  case stat => rw [read8_write8_io hstat, ioWrite_stat_read]; rfl
  case whole =>
    intro a ha
    have hrows : ∀ b ∈ ([0xFF05, 0xFF06, 0xFF40, 0xFF42, 0xFF43, 0xFF45, 0xFF46, 0xFF47, 0xFF48, 0xFF49, 0xFF4A, 0xFF4B] : List Word),
        0xFF00 ≤ b.toNat ∧ b.toNat < 0xFF80 ∧ (ioRegOf b.toNat).holdsByte = true := by
      simp [ioRegOf, IoReg.holdsByte]
    obtain ⟨h1, h2, hr⟩ := hrows a ha
    exact read8_write8_holdsByte h1 h2 hr v s
  case sound =>
    intro a ha
    exact read8_write8_holdsByte (by omega) (by omega) (by rw [ioRegOf_sound ha]; rfl) v s
  case unlisted =>
    intro a ha
    have hrow : regionOf a.toNat = .io .unlisted := by
      rw [regionOf_ioBlock (by omega) (by omega), ioRegOf_unlisted ha]
    unfold read8 write8
    rw [hrow]
    exact ⟨rfl, rfl⟩

end Sys2Proof.Machine
end

section
/-! The machine's step as the invariant sees it (63_scheduler_host.md R904, R905): what a step answers, as the effects of one
instruction with the devices, the dispatch and the end test behind them, and the invariant under each of these. -/

namespace Sys2Proof.Machine

theorem Effects.trans {s t u : State} (h : Effects s t) (k : Effects t u) : Effects s u := by
  induction k with
  | refl => exact h
  | cpu _ c hf hc ih => exact ih.cpu c hf hc
  | store _ a v ih => exact ih.store a v

/-- A CPU step is the effects of one instruction, or of none where the CPU is idle, and its cost (R321). -/
theorem cpuStep_next {s t : State} (h : cpuStep s = .next t) : ∃ u, Effects s u ∧ t = addCycles (stepCost s) u := by
  unfold cpuStep at h
  split at h
  · cases h
    exact ⟨s, .refl, rfl⟩
  · split at h
    · rename_i u hu
      cases h
      have hpc : Effects s (advancePc (fetchInstr s) s) := Effects.refl.setPc _
      exact ⟨u, hpc.trans (exec_effects _ _ _ hu), rfl⟩
    · cases h
    · cases h

/-- The state a step answers after the CPU's part `u` (R904, R905). -/
theorem step_next {s t : State} (h : step s = .next t) (hrun : s.sched.runState ≠ .paused) :
    ∃ u, Effects s u ∧ t = frameEnd (dispatchStep (deviceStep (stepCost s) (addCycles (stepCost s) u))) := by
  rw [step, if_neg hrun, frameStep, iterate] at h
  cases hc : cpuStep s with
  | next w =>
    obtain ⟨u, hu, rfl⟩ := cpuStep_next hc
    rw [hc] at h
    cases h
    exact ⟨u, hu, rfl⟩
  | fault r => rw [hc] at h; cases h
  | refused r => rw [hc] at h; cases h

theorem MidInv.addCycles {s : State} (h : MidInv s) (n : Nat) : MidInv (addCycles n s) := h.setCpu _ h.fLowNibble

/-- What the end of an iteration leaves: the invariant with the TIMA sub-counter below its period (R117). -/
structure DeviceInv (s : State) : Prop where
  mid : MidInv s
  timaCounter : timerEnabled s.timer.tac = true → s.timer.timaCounter < timerPeriod s.timer.tac

/-- The devices' half of an iteration brings the TIMA sub-counter below its period, whatever a store did to TAC. -/
theorem MidInv.deviceStep {s : State} (h : MidInv s) (n : Nat) : DeviceInv (deviceStep n s) := by
  obtain ⟨hmid, htima⟩ := h.mmuStep n
  exact ⟨hmid.setSched _ hmid.noSamples, htima⟩

theorem ime_of_dispatchSource {s : State} {b : IntSource} (h : dispatchSource s = some b) : s.cpu.ime = true := by
  unfold dispatchSource at h
  split at h
  · assumption
  · cases h

/-- The dispatch half ends with a device step, or does nothing (R708). -/
theorem DeviceInv.dispatchStep {s : State} (h : DeviceInv s) : DeviceInv (dispatchStep s) := by
  unfold Machine.dispatchStep
  split
  · exact h
  · rename_i b hb
    exact ((h.mid.dispatch b (ime_of_dispatchSource hb)).addCycles _).deviceStep _

/-- The end test delivers a ready frame, ends a spent one, and leaves any other inside its budget (R905). -/
theorem DeviceInv.frameEnd {s : State} (h : DeviceInv s) : (frameEnd s).Inv := by
  have hbudget : 0 < frameBudget := by decide
  unfold Machine.frameEnd
  split_ifs with hready hspent
  · have hmid := h.mid.setPpu { s.ppu with frameReady := false } (h.mid.ppu.of_eq rfl rfl rfl rfl rfl rfl rfl rfl rfl)
    exact ⟨hmid.setSched _ hmid.noSamples, h.timaCounter, rfl, hbudget⟩
  · exact ⟨h.mid.setSched _ h.mid.noSamples, h.timaCounter, Bool.eq_false_of_not_eq_true hready, hbudget⟩
  · exact ⟨h.mid.setSched _ h.mid.noSamples, h.timaCounter, Bool.eq_false_of_not_eq_true hready, Nat.lt_of_not_le hspent⟩

/-- Settles O59: the invariant goes through the instruction's effects, the device step, the dispatch and the end test in turn. -/
theorem stepKeepsTheInvariant : Obligations.StepKeepsTheInvariant := by
  intro s t hs ht
  by_cases hrun : s.sched.runState = .paused
  · rw [step, if_pos hrun] at ht
    cases ht
    exact hs
  · obtain ⟨u, hu, rfl⟩ := step_next ht hrun
    exact (((hs.mid.effects hu).addCycles _).deviceStep _).dispatchStep.frameEnd

end Sys2Proof.Machine
end

section
/-! What a store leaves in the memories (20_memory.md R201 to R216, 21_cartridge_mbc.md R270, R271): a byte stored reads back through
its region, the echo is the work RAM, and the locked and unusable addresses drop a store. -/

namespace Sys2Proof.Machine

/-- A read after a write of the same address, by its region. -/
theorem read8_write8_region {a : Word} {r : Region} (ha : regionOf a.toNat = r) (v : Byte) (s : State) :
    read8 (write8 a v s) a = regionRead (regionWrite v s r) r := by
  unfold read8 write8
  rw [ha]

theorem vramLocked_eq_false {s : State} (h : s.ppu.mode ≠ .vram) : vramLocked s = false := by
  simp [vramLocked, h]

theorem oamLocked_eq_false {s : State} (hv : s.ppu.mode ≠ .vram) (ho : s.ppu.mode ≠ .oam) : oamLocked s = false := by
  simp [oamLocked, hv, ho]

theorem oamLocked_eq_true {s : State} (h : s.ppu.mode = .vram ∨ s.ppu.mode = .oam) : oamLocked s = true := by
  rcases h with h | h <;> simp [oamLocked, h]

theorem vramWrite_locked {s : State} (h : s.ppu.mode = .vram) (off : Nat) (v : Byte) : regionWrite v s (.vram off) = s := by
  simp [regionWrite, vramLocked, h]

theorem vramWrite_open {s : State} (h : s.ppu.mode ≠ .vram) (off : Nat) (v : Byte) :
    regionWrite v s (.vram off) = { s with ppu.vram := s.ppu.vram.write off v } := by
  simp [regionWrite, vramLocked_eq_false h]

theorem extKey_extWrite (c : Cart) (off p : Nat) (v : Byte) : extKey (extWrite c off v) p = extKey c p := by
  rw [extWrite_keeps]
  rfl

/-- A byte stored where an access reaches the RAM reads back; MBC2's RAM holds its low nibble (R270, R271). -/
theorem extRead_extWrite_same {c : Cart} {off : Nat} (h : (extKey c off).isSome = true) (v : Byte) :
    extRead (extWrite c off v) off = if c.kind = .mbc2 then v &&& 0x0F else v := by
  obtain ⟨k, hk⟩ := Option.isSome_iff_exists.1 h
  have hread : extRead (extWrite c off v) off =
      if c.kind = .mbc2 then (extWrite c off v).ram.read k &&& 0x0F else (extWrite c off v).ram.read k := by
    unfold extRead
    rw [extKey_extWrite, hk, extWrite_keeps]
    cases c.kind <;> rfl
  have hram : (extWrite c off v).ram.read k = if c.kind = .mbc2 then v &&& 0x0F else v := by
    unfold extWrite
    rw [hk]
    cases c.kind <;> exact Memory.read_write_same _ _ _
  rw [hread, hram]
  split
  · rw [BitVec.and_assoc, BitVec.and_self]
  · rfl

/-- Settles O41, region by region of R201. -/
theorem storedByteReadsBack : Obligations.StoredByteReadsBack := by
  intro a v s
  refine ⟨fun ha => ?ram, fun ha hmode => ?vram, fun ha hv ho => ?oam, fun ha hkey => ?ext⟩
  case ram =>
    rcases ha with ha | ha
    · rw [read8_write8_region ((regionOf_wram_iff _ _).2 ⟨ha.1, ha.2, rfl⟩)]
      exact Memory.read_write_same _ _ _
    · by_cases hie : a.toNat < 0xFFFF
      · rw [read8_write8_region ((regionOf_hram_iff _ _).2 ⟨ha, hie, rfl⟩)]
        exact Memory.read_write_same _ _ _
      · rw [read8_write8_region ((regionOf_ie_iff _).2 (Nat.le_of_not_lt hie))]
        rfl
  case vram =>
    rw [read8_write8_region ((regionOf_vram_iff _ _).2 ⟨ha.1, ha.2, rfl⟩), vramWrite_open hmode]
    exact Memory.read_write_same _ _ _
  case oam =>
    rw [read8_write8_region ((regionOf_oam_iff _ _).2 ⟨ha.1, ha.2, rfl⟩), regionWrite, oamWrite_open _ _ _ (oamLocked_eq_false hv ho)]
    exact Memory.read_write_same _ _ _
  case ext =>
    rw [read8_write8_region ((regionOf_ext_iff _ _).2 ⟨ha.1, ha.2, rfl⟩)]
    exact extRead_extWrite_same hkey v

/-- An echo address has the region of the work-RAM address 0x2000 below it (R210). -/
theorem regionOf_echo {a : Word} (h1 : 0xE000 ≤ a.toNat) (h2 : a.toNat < 0xFE00) : regionOf a.toNat = regionOf (a - 0x2000).toNat := by
  have hsub : (a - 0x2000).toNat = a.toNat - 0x2000 := by bv_omega
  rw [(regionOf_wram_iff a.toNat _).2 ⟨by omega, h2, rfl⟩, hsub]
  exact ((regionOf_wram_iff _ _).2 ⟨by omega, by omega, by omega⟩).symm

/-- Settles O42: the echo by its region, and each dropped store by its own. -/
theorem echoAndDroppedWrites : Obligations.EchoAndDroppedWrites := by
  intro a v s
  refine ⟨fun h1 h2 => ?echo, fun h1 h2 => ?unusable, fun h1 h2 hmode => ?vram, fun h1 h2 hmode => ?oam, rfl⟩
  case echo =>
    unfold read8 write8
    rw [regionOf_echo h1 h2]
    exact ⟨rfl, rfl⟩
  case unusable =>
    unfold read8 write8
    rw [(regionOf_unusable_iff _).2 ⟨h1, h2⟩]
    exact ⟨rfl, rfl⟩
  case vram =>
    rw [write8, (regionOf_vram_iff _ _).2 ⟨h1, h2, rfl⟩]
    exact vramWrite_locked hmode _ v
  case oam =>
    rw [write8, (regionOf_oam_iff _ _).2 ⟨h1, h2, rfl⟩]
    exact oamWrite_locked _ v s (oamLocked_eq_true hmode)

end Sys2Proof.Machine
end

section
/-! The OAM DMA (20_memory.md R225): what the copy leaves in each byte of OAM. A source inside OAM is byte `i` itself, so no byte of the
copy reads one that the copy has changed. -/

namespace Sys2Proof.Machine

/-- The address that byte `i` of the DMA from page `v` reads. -/
theorem dmaSource_toNat (v : Byte) {i : Nat} (hi : i < 160) : (joinBytes v 0 + BitVec.ofNat 16 i).toNat = v.toNat * 256 + i := by
  have hv := v.isLt
  have h0 : (0 : Byte).toNat = 0 := rfl
  rw [BitVec.toNat_add, joinBytes_toNat, BitVec.toNat_ofNat, h0]
  omega

/-- A DMA source inside OAM is the byte the copy writes there. -/
theorem dmaSource_oam {v : Byte} {i o : Nat} (hi : i < 160) (h : regionOf (joinBytes v 0 + BitVec.ofNat 16 i).toNat = .oam o) :
    o = i := by
  rw [dmaSource_toNat v hi] at h
  obtain ⟨h1, h2, ho⟩ := (regionOf_oam_iff _ _).1 h
  omega

/-- A change of OAM that spares byte `i` does not show in what byte `i` of the copy reads. -/
theorem read8_dmaSource {s : State} {m : Memory} {i : Nat} (v : Byte) (hi : i < 160) (hm : m.read i = s.ppu.oam.read i) :
    read8 { s with ppu.oam := m } (joinBytes v 0 + BitVec.ofNat 16 i) = read8 s (joinBytes v 0 + BitVec.ofNat 16 i) := by
  unfold read8
  by_cases hoam : ∃ o, regionOf (joinBytes v 0 + BitVec.ofNat 16 i).toNat = .oam o
  · obtain ⟨o, ho⟩ := hoam
    rw [ho, dmaSource_oam hi ho]
    exact hm
  · exact regionRead_oam_only m _ fun o ho => hoam ⟨o, ho⟩

theorem dmaFold_locked (v : Byte) (l : List Nat) {s : State} (h : oamLocked s = true) : l.foldl (dmaByte v) s = s := by
  induction l with
  | nil => rfl
  | cons i l ih => rw [List.foldl_cons, dmaByte, oamWrite_locked _ _ _ h, ih]

/-- The first `n` bytes of the copy: they are in OAM as the source read before it, and the other bytes are as they were. -/
theorem dmaFold_read (v : Byte) {s : State} (h : oamLocked s = false) {n : Nat} (hn : n ≤ 160) (i : Nat) :
    ((List.range n).foldl (dmaByte v) s).ppu.oam.read i =
      if i < n then read8 s (joinBytes v 0 + BitVec.ofNat 16 i) else s.ppu.oam.read i := by
  induction n generalizing i with
  | zero => rfl
  | succ n ih =>
    have ih := ih (by omega)
    obtain ⟨m, hm⟩ := dmaFold_rest v (List.range n) s
    rw [List.range_succ, List.foldl_append, List.foldl_cons, List.foldl_nil, hm]
    simp only [hm] at ih
    have hsource : m.read n = s.ppu.oam.read n := by rw [ih n, if_neg (lt_irrefl n)]
    have hopen : oamLocked { s with ppu.oam := m } = false := h
    rw [dmaByte, read8_dmaSource v (by omega) hsource, oamWrite_open _ _ _ hopen]
    show (m.write n _).read i = _
    rw [Memory.read_write, ih i]
    rcases Nat.lt_trichotomy i n with hlt | rfl | hgt
    · rw [if_neg (by omega), if_pos hlt, if_pos (by omega)]
    · rw [if_pos rfl, if_pos (by omega)]
    · rw [if_neg (by omega), if_neg (by omega), if_neg (by omega)]

theorem page_shiftLeft (v : Byte) : v.setWidth 16 <<< 8 = joinBytes v 0 := by
  revert v
  decide

/-- Settles O44: the copy's frame, the lock, and the byte-by-byte copy. -/
theorem oamDmaCopy : Obligations.OamDmaCopy := by
  intro v s
  have ht : write8 0xFF46 v s = dmaWrite v s := rfl
  have hrest := dmaWrite_rest v s
  dsimp only
  rw [ht]
  refine ⟨dmaWrite_dma v s, by rw [hrest], fun hmode => ?locked, fun hmode i hi => ?copied⟩
  case locked =>
    have hlock : oamLocked { s with ppu.dma := v } = true := oamLocked_eq_true hmode.symm
    rw [dmaWrite, dmaFold_locked v _ hlock]
  case copied =>
    have hopen : oamLocked { s with ppu.dma := v } = false := by
      rcases hmode with h | h <;> exact oamLocked_eq_false (by simp [h]) (by simp [h])
    rw [page_shiftLeft, dmaWrite, dmaFold_read v hopen le_rfl, if_pos hi]

end Sys2Proof.Machine
end

section
/-! What a step leaves to the host (63_scheduler_host.md R904, R905, R920): the part of the machine that only the host's operations
change, with a cycle counter that only grows (10_state.md R109), through each part of a step. -/

namespace Sys2Proof

theorem cbEntryOf_wellFormed (b : Byte) : (cbEntryOf b).wellFormed = true := by
  revert b
  decide

/-- Any byte but 0xCB selects a well-formed instruction, whatever the operand bytes. -/
theorem decodeBytes_ofNat_wellFormed {n : Nat} (hn : n < 256) (hcb : n ≠ 0xCB) (b1 b2 : Byte) :
    (decodeBytes (BitVec.ofNat 8 n) b1 b2).wellFormed = true := by
  rcases Nat.lt_or_gt_of_ne hcb with h | h
  · interval_cases n <;> rfl
  · interval_cases n <;> rfl

/-- No three bytes decode to the row of the byte 0xCB on its own (R605). -/
theorem decodeBytes_wellFormed (b0 b1 b2 : Byte) : (decodeBytes b0 b1 b2).wellFormed = true := by
  by_cases hcb : b0 = 0xCB
  · subst hcb
    exact cbEntryOf_wellFormed b1
  · have h := decodeBytes_ofNat_wellFormed b0.isLt (fun h => hcb (BitVec.eq_of_toNat_eq h)) b1 b2
    rwa [BitVec.ofNat_toNat, BitVec.setWidth_eq] at h

end Sys2Proof

namespace Sys2Proof.Machine

/-- Every CPU step costs at least one cycle where the parameters are valid (R23, R24, R968). -/
theorem stepCost_pos {s : State} (h : s.cfg.valid = true) : 0 < stepCost s := by
  simp only [Config.valid, Bool.and_eq_true, decide_eq_true_eq] at h
  obtain ⟨⟨⟨hhalt, hillegal⟩, -⟩, -⟩ := h
  unfold stepCost
  split
  · exact hhalt
  · exact instrCost_pos _ _ (decodeBytes_wellFormed _ _ _) hillegal

/-- What the host owns is the same in both states, and the cycle counter has not decreased. -/
structure KeepsHostOwned (s t : State) : Prop where
  cfg : t.cfg = s.cfg
  rom : t.cart.rom = s.cart.rom
  romLen : t.cart.romLen = s.cart.romLen
  kind : t.cart.kind = s.cart.kind
  ramLen : t.cart.ramLen = s.cart.ramLen
  pressed : ∀ key, t.joy.pressed key = s.joy.pressed key
  runState : t.sched.runState = s.sched.runState
  samples : t.sched.samples = s.sched.samples
  host : t.host = s.host
  cycles : s.cpu.cycles ≤ t.cpu.cycles

theorem KeepsHostOwned.refl (s : State) : KeepsHostOwned s s := ⟨rfl, rfl, rfl, rfl, rfl, fun _ => rfl, rfl, rfl, rfl, le_rfl⟩

theorem KeepsHostOwned.trans {s t u : State} (h : KeepsHostOwned s t) (k : KeepsHostOwned t u) : KeepsHostOwned s u where
  cfg := k.cfg.trans h.cfg
  rom := k.rom.trans h.rom
  romLen := k.romLen.trans h.romLen
  kind := k.kind.trans h.kind
  ramLen := k.ramLen.trans h.ramLen
  pressed := fun key => (k.pressed key).trans (h.pressed key)
  runState := k.runState.trans h.runState
  samples := k.samples.trans h.samples
  host := k.host.trans h.host
  cycles := h.cycles.trans k.cycles

theorem StoreOnly.keepsHostOwned {s t : State} (h : StoreOnly s t) : KeepsHostOwned s t where
  cfg := h.cfg
  rom := h.rom
  romLen := h.romLen
  kind := h.kind
  ramLen := h.ramLen
  pressed := h.pressed
  runState := by rw [h.sched]
  samples := by rw [h.sched]
  host := h.host
  cycles := by rw [h.cpu]

theorem Effects.keepsHostOwned {s t : State} (h : Effects s t) : KeepsHostOwned s t := by
  obtain ⟨hcfg, hrom, hromLen, hkind, hpressed, hsched, hhost⟩ := h.keepsHostState
  exact ⟨hcfg, hrom, hromLen, hkind, h.ramLen, hpressed, by rw [hsched], by rw [hsched], hhost, h.cycles.ge⟩

theorem addCycles_keepsHostOwned (n : Nat) (s : State) : KeepsHostOwned s (addCycles n s) :=
  ⟨rfl, rfl, rfl, rfl, rfl, fun _ => rfl, rfl, rfl, rfl, Nat.le_add_right _ _⟩

theorem deviceStep_keepsHostOwned (n : Nat) (s : State) : KeepsHostOwned s (deviceStep n s) :=
  (mmuStep_deviceOnly n s).storeOnly.keepsHostOwned.trans ⟨rfl, rfl, rfl, rfl, rfl, fun _ => rfl, rfl, rfl, rfl, le_rfl⟩

/-- Serving a source pushes PC and changes CPU and controller registers (R705, R707). -/
theorem dispatch_keepsHostOwned (b : IntSource) {s : State} (hi : s.cpu.ime = true) : KeepsHostOwned s (dispatch b s) := by
  rw [dispatch_taken b s hi]
  have hpush := (write16_storeOnly (s.cpu.sp - 2) s.cpu.pc
    { s with ic.reqs := s.ic.reqs &&& ~~~ b.mask, ic.phase := .idle,
             cpu := { s.cpu with ime := false, halted := false, sp := s.cpu.sp - 2 } }).keepsHostOwned
  exact ⟨hpush.cfg, hpush.rom, hpush.romLen, hpush.kind, hpush.ramLen, hpush.pressed, hpush.runState, hpush.samples, hpush.host,
    hpush.cycles⟩

theorem dispatchStep_keepsHostOwned (s : State) : KeepsHostOwned s (dispatchStep s) := by
  unfold dispatchStep
  split
  · exact .refl s
  · rename_i b hb
    exact ((dispatch_keepsHostOwned b (ime_of_dispatchSource hb)).trans (addCycles_keepsHostOwned _ _)).trans
      (deviceStep_keepsHostOwned _ _)

theorem frameEnd_keepsHostOwned (s : State) : KeepsHostOwned s (frameEnd s) := by
  unfold frameEnd
  split_ifs <;> exact ⟨rfl, rfl, rfl, rfl, rfl, fun _ => rfl, rfl, rfl, rfl, le_rfl⟩

/-- A step that is not paused keeps what the host owns, and counts at least its instruction's cycles (R109, R904). -/
theorem step_keepsHostOwned {s t : State} (h : step s = .next t) (hrun : s.sched.runState ≠ .paused) :
    KeepsHostOwned s t ∧ s.cpu.cycles + stepCost s ≤ t.cpu.cycles := by
  obtain ⟨u, hu, rfl⟩ := step_next h hrun
  have hcpu := hu.keepsHostOwned.trans (addCycles_keepsHostOwned (stepCost s) u)
  have hrest := ((deviceStep_keepsHostOwned (stepCost s) (addCycles (stepCost s) u)).trans (dispatchStep_keepsHostOwned _)).trans
    (frameEnd_keepsHostOwned _)
  have hcount : (addCycles (stepCost s) u).cpu.cycles = s.cpu.cycles + stepCost s := by rw [← hu.cycles]; rfl
  exact ⟨hcpu.trans hrest, hcount ▸ hrest.cycles⟩

/-- Settles O60: what the host owns goes through the instruction's effects, the device step, the dispatch and the end test, and the
instruction's cost is positive. -/
theorem stepKeepsHostOwnedState : Obligations.StepKeepsHostOwnedState := by
  intro s t h
  by_cases hrun : s.sched.runState = .paused
  · rw [step, if_pos hrun] at h
    cases h
    exact ⟨rfl, rfl, rfl, rfl, rfl, fun _ => rfl, rfl, rfl, rfl, le_rfl, fun hne => absurd hrun hne⟩
  · obtain ⟨hk, hcycles⟩ := step_keepsHostOwned h hrun
    refine ⟨hk.cfg, hk.rom, hk.romLen, hk.kind, hk.ramLen, hk.pressed, hk.runState, hk.samples, hk.host, hk.cycles, fun _ hv => ?_⟩
    exact Nat.lt_of_lt_of_le (Nat.lt_add_of_pos_right (stepCost_pos hv)) hcycles

end Sys2Proof.Machine
end

section
/-! The cartridge on the bus (21_cartridge_mbc.md R268 to R287): what each window reads, and what a write below 0x8000 leaves in the
bank registers. The model masks the bank number bit by bit; the statements compute it as a number, so each mask has a lemma. -/

namespace Sys2Proof.Machine

theorem read8_rom0 {a : Word} (h : a.toNat < 0x4000) (s : State) : read8 s a = romRead s.cart a.toNat := by
  rw [read8, (regionOf_rom0_iff _ _).2 ⟨h, rfl⟩]
  rfl

theorem read8_romN {a : Word} (h1 : 0x4000 ≤ a.toNat) (h2 : a.toNat < 0x8000) (s : State) :
    read8 s a = romRead s.cart (romBankOffset s.cart (a.toNat - 0x4000)) := by
  rw [read8, (regionOf_romN_iff _ _).2 ⟨h1, h2, rfl⟩]
  rfl

theorem read8_ext {a : Word} (h1 : 0xA000 ≤ a.toNat) (h2 : a.toNat < 0xC000) (s : State) :
    read8 s a = extRead s.cart (a.toNat - 0xA000) := by
  rw [read8, (regionOf_ext_iff _ _).2 ⟨h1, h2, rfl⟩]
  rfl

/-- The RAM bank the window shows: kind None has no bank register (R270, D37). -/
def extBank (c : Cart) : Nat := if c.kind = .none then 0 else c.ramBank.toNat

/-- Every kind but MBC2 reaches its RAM by bank and offset, where the access is enabled and in range (R270). -/
theorem extKey_banked {c : Cart} (hk : c.kind ≠ .mbc2) (off : Nat) :
    extKey c off = if (c.kind = .none ∨ c.ramEnabled = true) ∧ extBank c * 0x2000 + off < c.ramLen
      then some (extBank c * 0x2000 + off) else none := by
  unfold extKey extBank
  cases hkind : c.kind with
  | mbc2 => exact absurd hkind hk
  | none => simp
  | mbc1 | mbc3 | mbc5 => cases c.ramEnabled <;> simp

theorem extRead_banked {c : Cart} (hk : c.kind ≠ .mbc2) (off : Nat) :
    extRead c off = if (c.kind = .none ∨ c.ramEnabled = true) ∧ extBank c * 0x2000 + off < c.ramLen
      then c.ram.read (extBank c * 0x2000 + off) else 0xFF := by
  rw [extRead, extKey_banked hk]
  split_ifs
  · cases hkind : c.kind with
    | mbc2 => exact absurd hkind hk
    | none | mbc1 | mbc3 | mbc5 => rfl
  · rfl

/-- MBC2 reads a nibble of one of its 512 entries, without a length check (R270). -/
theorem extRead_mbc2 {c : Cart} (hk : c.kind = .mbc2) (off : Nat) :
    extRead c off = if c.ramEnabled = true then c.ram.read (off % 512) &&& 0x0F else 0xFF := by
  simp only [extRead, extKey, hk]
  split_ifs <;> rfl

/-- Settles O45, window by window. -/
theorem cartridgeReads : Obligations.CartridgeReads := by
  intro a s
  refine ⟨fun h => read8_rom0 h s, fun h1 h2 => read8_romN h1 h2 s, fun h1 h2 hk => ?banked, fun h1 h2 hk => ?mbc2⟩
  case banked =>
    have hbank : extBank s.cart * 0x2000 = if s.cart.kind = .none then 0 else s.cart.ramBank.toNat * 0x2000 := by
      unfold extBank
      split_ifs <;> simp
    rw [read8_ext h1 h2, extRead_banked hk, hbank]
  case mbc2 =>
    have hentry : (a.toNat - 0xA000) % 512 = a.toNat % 512 := by omega
    rw [read8_ext h1 h2, extRead_mbc2 hk, hentry]

/-- Both ROM windows hand the address itself to the kind's decoder (R205, R272). -/
theorem write8_bankWindow {a : Word} (h : a.toNat < 0x8000) (v : Byte) (s : State) :
    write8 a v s = { s with cart := mbcWrite s.cart a.toNat v } := by
  by_cases hlow : a.toNat < 0x4000
  · rw [write8, (regionOf_rom0_iff _ _).2 ⟨hlow, rfl⟩]
    rfl
  · have hhigh : 0x4000 ≤ a.toNat := Nat.le_of_not_lt hlow
    rw [write8, (regionOf_romN_iff _ _).2 ⟨hhigh, h, rfl⟩, regionWrite, Nat.add_sub_cancel' hhigh]

/-- The two parts of a bank number, written apart, are its sum. -/
theorem ofNat_or_low (hi : Nat) {lo k : Nat} (h : lo < 2 ^ k) :
    BitVec.ofNat 9 (hi * 2 ^ k) ||| BitVec.ofNat 9 lo = BitVec.ofNat 9 (hi * 2 ^ k + lo) := by
  rw [Nat.mul_comm, Nat.two_pow_add_eq_or_of_lt h, BitVec.ofNat_or]

theorem romBank_and_0x60 (r : BitVec 9) : r &&& 0x60 = BitVec.ofNat 9 (r.toNat / 32 % 4 * 32) := by
  revert r
  decide

theorem romBank_and_0x1F (r : BitVec 9) : r &&& 0x1F = BitVec.ofNat 9 (r.toNat % 32) := by
  revert r
  decide

theorem romBank_and_0x100 (r : BitVec 9) : r &&& 0x100 = BitVec.ofNat 9 (r.toNat / 256 * 256) := by
  revert r
  decide

theorem romBank_and_0xFF (r : BitVec 9) : r &&& 0xFF = BitVec.ofNat 9 (r.toNat % 256) := by
  revert r
  decide

/-- MBC1's low five bank bits replaced (R274). -/
theorem romBank_setLow5 (r : BitVec 9) {n : Nat} (h : n < 32) :
    (r &&& 0x60) ||| BitVec.ofNat 9 n = BitVec.ofNat 9 (r.toNat / 32 % 4 * 32 + n) := by
  rw [romBank_and_0x60]
  exact ofNat_or_low (k := 5) _ h

/-- MBC1's upper two bank bits replaced (R275). -/
theorem romBank_setHigh2 (r : BitVec 9) (n : Nat) :
    BitVec.ofNat 9 (n * 32) ||| (r &&& 0x1F) = BitVec.ofNat 9 (n * 32 + r.toNat % 32) := by
  rw [romBank_and_0x1F]
  exact ofNat_or_low (k := 5) _ (Nat.mod_lt _ (by decide))

/-- MBC5's low eight bank bits replaced (R284). -/
theorem romBank_setLow8 (r : BitVec 9) (v : Byte) :
    (r &&& 0x100) ||| BitVec.ofNat 9 v.toNat = BitVec.ofNat 9 (r.toNat / 256 * 256 + v.toNat) := by
  rw [romBank_and_0x100]
  exact ofNat_or_low (k := 8) _ v.isLt

/-- MBC5's bank bit 8 replaced (R285). -/
theorem romBank_setBit8 (r : BitVec 9) (n : Nat) :
    BitVec.ofNat 9 (n * 256) ||| (r &&& 0xFF) = BitVec.ofNat 9 (n * 256 + r.toNat % 256) := by
  rw [romBank_and_0xFF]
  exact ofNat_or_low (k := 8) _ (Nat.mod_lt _ (by decide))

theorem bitOf_zero (v : Byte) : bitOf v 0 = decide (v.toNat % 2 = 1) := by
  revert v
  decide

section
variable (c : Cart) {a : Nat} (v : Byte)

/-! The kind selects the decoder (R272, R290). -/

theorem mbcWrite_none (hk : c.kind = .none) : mbcWrite c a v = c := by rw [mbcWrite, hk]

theorem mbcWrite_mbc1 (hk : c.kind = .mbc1) : mbcWrite c a v = mbc1Write c a v := by rw [mbcWrite, hk]

theorem mbcWrite_mbc2 (hk : c.kind = .mbc2) : mbcWrite c a v = mbc2Write c a v := by rw [mbcWrite, hk]

theorem mbcWrite_mbc3 (hk : c.kind = .mbc3) : mbcWrite c a v = mbc3Write c a v := by rw [mbcWrite, hk]

theorem mbcWrite_mbc5 (hk : c.kind = .mbc5) : mbcWrite c a v = mbc5Write c a v := by rw [mbcWrite, hk]

/-! MBC1's windows. -/

theorem mbc1Write_enable (h : a < 0x2000) : mbc1Write c a v = { c with ramEnabled := enableOf v } := if_pos h

theorem mbc1Write_romBank (h1 : 0x2000 ≤ a) (h2 : a < 0x4000) :
    mbc1Write c a v = { c with romBank := BitVec.ofNat 9 (c.romBank.toNat / 32 % 4 * 32 + zeroToOne (v.toNat % 32)) } := by
  have hn : zeroToOne (v.toNat % 32) < 32 := zeroToOne_lt (Nat.mod_lt _ (by decide)) (by decide)
  rw [mbc1Write, if_neg (by omega), if_pos h2, romBank_setLow5 _ hn]

theorem mbc1Write_ramBank (h1 : 0x4000 ≤ a) (h2 : a < 0x6000) (hm : c.bankingMode = true) :
    mbc1Write c a v = { c with ramBank := BitVec.ofNat 4 (v.toNat % 4) } := by
  rw [mbc1Write, if_neg (by omega), if_neg (by omega), if_pos h2, if_pos hm]

theorem mbc1Write_upperBits (h1 : 0x4000 ≤ a) (h2 : a < 0x6000) (hm : c.bankingMode = false) :
    mbc1Write c a v = { c with romBank := BitVec.ofNat 9 (v.toNat % 4 * 32 + c.romBank.toNat % 32) } := by
  rw [mbc1Write, if_neg (by omega), if_neg (by omega), if_pos h2, if_neg (by simp [hm]), romBank_setHigh2]

theorem mbc1Write_mode (h : 0x6000 ≤ a) : mbc1Write c a v = { c with bankingMode := decide (v.toNat % 2 = 1) } := by
  rw [mbc1Write, if_neg (by omega), if_neg (by omega), if_neg (by omega), bitOf_zero]

/-! MBC2's windows: address bit 8 selects the register. -/

theorem mbc2Write_enable (h : a < 0x4000) (h8 : a / 256 % 2 = 0) : mbc2Write c a v = { c with ramEnabled := enableOf v } := by
  rw [mbc2Write, if_pos h, if_pos h8]

theorem mbc2Write_romBank (h : a < 0x4000) (h8 : a / 256 % 2 = 1) :
    mbc2Write c a v = { c with romBank := BitVec.ofNat 9 (zeroToOne (v.toNat % 16)) } := by
  rw [mbc2Write, if_pos h, if_neg (by omega), lowNibble]

theorem mbc2Write_dropped (h : 0x4000 ≤ a) : mbc2Write c a v = c := if_neg (Nat.not_lt.2 h)

/-! MBC3's windows. -/

theorem mbc3Write_enable (h : a < 0x2000) : mbc3Write c a v = { c with ramEnabled := enableOf v } := if_pos h

theorem mbc3Write_romBank (h1 : 0x2000 ≤ a) (h2 : a < 0x4000) :
    mbc3Write c a v = { c with romBank := BitVec.ofNat 9 (zeroToOne (v.toNat % 128)) } := by
  rw [mbc3Write, if_neg (by omega), if_pos h2]

theorem mbc3Write_ramBank (h1 : 0x4000 ≤ a) (h2 : a < 0x6000) :
    mbc3Write c a v = { c with ramBank := BitVec.ofNat 4 (v.toNat % 4) } := by
  rw [mbc3Write, if_neg (by omega), if_neg (by omega), if_pos h2]

theorem mbc3Write_dropped (h : 0x6000 ≤ a) : mbc3Write c a v = c := by
  rw [mbc3Write, if_neg (by omega), if_neg (by omega), if_neg (by omega)]

/-! MBC5's windows. -/

theorem mbc5Write_enable (h : a < 0x2000) : mbc5Write c a v = { c with ramEnabled := enableOf v } := if_pos h

theorem mbc5Write_romBankLow (h1 : 0x2000 ≤ a) (h2 : a < 0x3000) :
    mbc5Write c a v = { c with romBank := BitVec.ofNat 9 (c.romBank.toNat / 256 * 256 + v.toNat) } := by
  rw [mbc5Write, if_neg (by omega), if_pos h2, romBank_setLow8]

theorem mbc5Write_romBankBit8 (h1 : 0x3000 ≤ a) (h2 : a < 0x4000) :
    mbc5Write c a v = { c with romBank := BitVec.ofNat 9 (v.toNat % 2 * 256 + c.romBank.toNat % 256) } := by
  rw [mbc5Write, if_neg (by omega), if_neg (by omega), if_pos h2, romBank_setBit8]

theorem mbc5Write_ramBank (h1 : 0x4000 ≤ a) (h2 : a < 0x6000) :
    mbc5Write c a v = { c with ramBank := BitVec.ofNat 4 (v.toNat % 16) } := by
  rw [mbc5Write, if_neg (by omega), if_neg (by omega), if_neg (by omega), if_pos h2, lowNibble]

theorem mbc5Write_dropped (h : 0x6000 ≤ a) : mbc5Write c a v = c := by
  rw [mbc5Write, if_neg (by omega), if_neg (by omega), if_neg (by omega), if_neg (by omega)]

end

/-- Settles O46: the store reaches the kind's decoder, and each window of the decoder has its lemma. -/
theorem bankRegisterWrites : Obligations.BankRegisterWrites := by
  intro a v s ha
  have hcart : (write8 a v s).cart = mbcWrite s.cart a.toNat v := by rw [write8_bankWindow ha]
  dsimp only
  rw [hcart]
  refine ⟨write8_bankWindow ha v s, mbcWrite_none _ v, fun hk => ?mbc1, fun hk => ?mbc2, fun hk => ?mbc3, fun hk => ?mbc5⟩
  case mbc1 =>
    rw [mbcWrite_mbc1 _ v hk]
    exact ⟨mbc1Write_enable _ v, mbc1Write_romBank _ v, mbc1Write_ramBank _ v, mbc1Write_upperBits _ v, mbc1Write_mode _ v⟩
  case mbc2 =>
    rw [mbcWrite_mbc2 _ v hk]
    exact ⟨mbc2Write_enable _ v, mbc2Write_romBank _ v, mbc2Write_dropped _ v⟩
  case mbc3 =>
    rw [mbcWrite_mbc3 _ v hk]
    exact ⟨mbc3Write_enable _ v, mbc3Write_romBank _ v, mbc3Write_ramBank _ v, mbc3Write_dropped _ v⟩
  case mbc5 =>
    rw [mbcWrite_mbc5 _ v hk]
    exact ⟨mbc5Write_enable _ v, mbc5Write_romBankLow _ v, mbc5Write_romBankBit8 _ v, mbc5Write_ramBank _ v, mbc5Write_dropped _ v⟩

end Sys2Proof.Machine
end

section
/-! The decoder and the encoder against each other (30_encoding.md R300, R301, R314, R318, R320 to R322): the round trip from an
instruction to its bytes and back, and the one from three bytes to an instruction and back, which is the other read through the entry
the first byte selects. -/

namespace Sys2Proof

open Machine (loByte hiByte joinBytes)

theorem decode_stop_one (bs : List Byte) : decode .one (0x10 :: bs) = .ok (.stop, bs) := by
  cases bs <;> rfl

/-- Settles O1: by the entry the first byte of the encoding selects. -/
theorem decodeOfEncode : Obligations.DecodeOfEncode := by
  intro sl i rest hi
  cases encodedFrom i hi with
  | op b i entry notStop bytes => rw [bytes]; exact decode_op sl rest entry notStop
  | imm8 b f v entry bytes => rw [bytes]; exact decode_imm8 sl v rest entry
  | imm16 b f v entry bytes =>
    rw [bytes]
    exact (decode_imm16 sl _ _ rest entry).trans (by rw [Machine.joinBytes_hi_lo])
  | cb b i entry bytes => rw [bytes, ← entry]; exact decode_cb sl b rest
  | stop =>
    cases sl with
    | one => exact decode_stop_one rest
    | two => exact decode_stop .two 0x00 rest

/-- The bytes an entry's instructions have (R300, R323). -/
def Entry.size (sl : StopLength) : Entry → Nat
  | .op .stop => Instr.stop.length sl
  | .op _ => 1
  | .imm8 _ => 2
  | .imm16 _ => 3
  | .cb => 2

theorem Entry.size_op {i : Instr} (sl : StopLength) (h : i ≠ .stop) : (Entry.op i).size sl = 1 := by
  unfold Entry.size
  split
  · exact absurd (Entry.op.inj ‹_›) h
  · rfl
  all_goals contradiction

theorem Entry.size_cases (sl : StopLength) (e : Entry) : e.size sl = 1 ∨ e.size sl = 2 ∨ e.size sl = 3 := by
  unfold Entry.size
  split
  · cases sl
    · exact .inl rfl
    · exact .inr (.inl rfl)
  · exact .inl rfl
  · exact .inr (.inl rfl)
  · exact .inr (.inr rfl)
  · exact .inr (.inl rfl)

/-- The length of an instruction is the size of the entry its first byte selects (R300). -/
theorem length_eq_size (sl : StopLength) {i : Instr} (hi : i.wellFormed = true) :
    ∃ b, (encode sl i).head? = some b ∧ i.length sl = (entryOf b).size sl := by
  cases encodedFrom i hi with
  | op b i entry notStop bytes => exact ⟨b, by rw [bytes]; rfl, by rw [Instr.length, bytes, entry, Entry.size_op sl notStop]; rfl⟩
  | imm8 b f v entry bytes => exact ⟨b, by rw [bytes]; rfl, by rw [Instr.length, bytes, entry]; rfl⟩
  | imm16 b f v entry bytes => exact ⟨b, by rw [bytes]; rfl, by rw [Instr.length, bytes, entry]; rfl⟩
  | cb b i entry bytes => exact ⟨0xCB, by rw [bytes]; rfl, by rw [Instr.length, bytes]; rfl⟩
  | stop => exact ⟨0x10, by cases sl <;> rfl, rfl⟩

/-- Settles O3: the length is a function of the first byte. -/
theorem lengthFixedByFirstByte : Obligations.LengthFixedByFirstByte := by
  intro sl i j hi hj
  obtain ⟨b, hb, hlen⟩ := length_eq_size sl hi
  obtain ⟨c, hc, hlen'⟩ := length_eq_size sl hj
  refine ⟨hlen ▸ Entry.size_cases sl (entryOf b), fun hsame => ?same, fun hcb => ?prefixed, ?stop⟩
  case same =>
    rw [hb, hc, Option.some.injEq] at hsame
    rw [hlen, hlen', hsame]
  case prefixed =>
    rw [hb, Option.some.injEq] at hcb
    rw [hlen, hcb]
    rfl
  case stop => cases sl <;> rfl

/-- The instruction of an entry, with the operand bytes as a word, the first in its low byte. -/
def Entry.instr (w : Word) : Entry → Instr
  | .op i => i
  | .imm8 f => f (loByte w)
  | .imm16 f => f w
  | .cb => cbEntryOf (loByte w)

theorem decodeBytes_eq_instr (b0 b1 b2 : Byte) : decodeBytes b0 b1 b2 = (entryOf b0).instr (joinBytes b2 b1) := by
  unfold decodeBytes
  cases entryOf b0 <;> simp [Entry.instr]

theorem encode_cbEntryOf (sl : StopLength) (b : Byte) : encode sl (cbEntryOf b) = [0xCB, b] := by
  revert b
  cases sl <;> decide

/-- Every row of the map but STOP and 0xCB: the encoding is the row's byte and the operand bytes it has (R314). -/
theorem encode_instr_ofNat (sl : StopLength) {n : Nat} (hn : n < 256) (hstop : n ≠ 0x10) (hcb : n ≠ 0xCB) (w : Word) :
    encode sl ((entryOf (BitVec.ofNat 8 n)).instr w) <+: [BitVec.ofNat 8 n, loByte w, hiByte w] := by
  rcases Nat.lt_or_gt_of_ne hstop with h | h
  · interval_cases n <;> exact ⟨_, rfl⟩
  · rcases Nat.lt_or_gt_of_ne hcb with h' | h'
    · interval_cases n <;> exact ⟨_, rfl⟩
    · interval_cases n <;> exact ⟨_, rfl⟩

/-- The bytes decoded begin with the encoding of what they decode to (R301, R322). -/
theorem encode_decodeBytes_prefix (sl : StopLength) {b0 : Byte} (hstop : b0 ≠ 0x10) (b1 b2 : Byte) :
    encode sl (decodeBytes b0 b1 b2) <+: [b0, b1, b2] := by
  by_cases hcb : b0 = 0xCB
  · subst hcb
    exact ⟨[b2], by rw [show decodeBytes 0xCB b1 b2 = cbEntryOf b1 from rfl, encode_cbEntryOf]; rfl⟩
  · have h := encode_instr_ofNat sl b0.isLt (fun h => hstop (BitVec.eq_of_toNat_eq h)) (fun h => hcb (BitVec.eq_of_toNat_eq h))
      (joinBytes b2 b1)
    rwa [BitVec.ofNat_toNat, BitVec.setWidth_eq, ← decodeBytes_eq_instr, Machine.loByte_joinBytes, Machine.hiByte_joinBytes] at h

/-- Settles O2: the bytes begin with the encoding, so the round trip of O1 decodes them; STOP's second byte is skipped as it stands. -/
theorem decoderIsTotal : Obligations.DecoderIsTotal := by
  intro sl b0 b1 b2 rest
  have hwf := decodeBytes_wellFormed b0 b1 b2
  by_cases hstop : b0 = 0x10
  · subst hstop
    refine ⟨?_, hwf, fun _ => rfl, fun h => absurd rfl h⟩
    cases sl <;> rfl
  · have hprefix := encode_decodeBytes_prefix sl hstop b1 b2
    refine ⟨?_, hwf, fun h => absurd h hstop, fun _ => List.prefix_iff_eq_take.1 hprefix⟩
    obtain ⟨later, hbytes⟩ := hprefix
    have hall : b0 :: b1 :: b2 :: rest = encode sl (decodeBytes b0 b1 b2) ++ (later ++ rest) := by
      rw [← List.append_assoc, hbytes]; rfl
    rw [hall, decodeOfEncode sl _ _ hwf, Instr.length, List.drop_left]

/-- Settles O4: the decoder run on each word. -/
theorem decodedWordsOfTheTable : Obligations.DecodedWordsOfTheTable := by
  unfold Obligations.DecodedWordsOfTheTable
  decide

/-- Bytes that hold an instruction's encoding decode to it, whatever STOP's second byte is (R301). -/
theorem decodeBytes_of_encode (sl : StopLength) {i : Instr} (hi : i.wellFormed = true) (b0 b1 b2 : Byte)
    (hbytes : ∀ k < i.length sl, [b0, b1, b2][k]? = (encode sl i)[k]? ∨ (i = .stop ∧ k = 1)) : decodeBytes b0 b1 b2 = i := by
  by_cases hstop : i = .stop
  · subst hstop
    have hfirst : [b0, b1, b2][0]? = (encode sl .stop)[0]? := by
      refine (hbytes 0 ?_).resolve_right (fun h => absurd h.2 (by decide))
      cases sl <;> decide
    have hb0 : b0 = 0x10 := by cases sl <;> exact Option.some.inj hfirst
    rw [hb0]
    rfl
  · have hprefix : encode sl i <+: [b0, b1, b2] := by
      refine List.prefix_iff_getElem?.2 fun k hk => ?_
      rw [(hbytes k hk).resolve_right fun h => hstop h.1, List.getElem?_eq_getElem]
    obtain ⟨later, hlater⟩ := hprefix
    have hround := decodeOfEncode sl i later hi
    have htotal := (decoderIsTotal sl b0 b1 b2 []).1
    rw [hlater, htotal] at hround
    cases hround
    rfl

end Sys2Proof

namespace Sys2Proof.Machine

/-- A step that is not paused is the CPU's part, the devices by its cost, the dispatch check and the end test (R904, R905). -/
theorem step_of_cpuStep {s t : State} (hrun : s.sched.runState ≠ .paused) (h : cpuStep s = .next t) :
    step s = .next (frameEnd (dispatchStep (deviceStep (stepCost s) t))) := by
  rw [step, if_neg hrun, frameStep, iterate, h]

theorem stepCost_idle {s : State} (h : cpuIdle s = true) : stepCost s = s.cfg.haltStepCycles := if_pos h

theorem cpuStep_idle {s : State} (h : cpuIdle s = true) : cpuStep s = .next (addCycles s.cfg.haltStepCycles s) := by
  rw [cpuStep, if_pos h, stepCost_idle h]

theorem stepCost_awake {s : State} (h : cpuIdle s = false) : stepCost s = instrCost s.cfg (fetchInstr s) := by
  rw [stepCost, if_neg (by simp [h])]

theorem cpuStep_awake {s t : State} (h : cpuIdle s = false) (ht : exec (fetchInstr s) (advancePc (fetchInstr s) s) = .next t) :
    cpuStep s = .next (addCycles (stepCost s) t) := by
  rw [cpuStep, if_neg (by simp [h]), ht]

/-- The bytes at PC decide what is fetched (R321). -/
theorem fetchInstr_of_bytes {i : Instr} {s : State} (hi : i.wellFormed = true)
    (hbytes : ∀ k < i.length s.cfg.stopLength,
      some (read8 s (s.cpu.pc + BitVec.ofNat 16 k)) = (encode s.cfg.stopLength i)[k]? ∨ (i = .stop ∧ k = 1)) :
    fetchInstr s = i := by
  refine decodeBytes_of_encode s.cfg.stopLength hi _ _ _ fun k hk => (hbytes k hk).imp_left fun h => ?_
  have hk3 : k < 3 := by
    have hlen := (lengthFixedByFirstByte s.cfg.stopLength i i hi hi).1
    omega
  rw [← h]
  interval_cases k <;> simp

/-- Settles O5: the bytes decide the fetch, and the step is the fetched instruction's. -/
theorem stepRunsTheFetchedInstruction : Obligations.StepRunsTheFetchedInstruction := by
  intro i s t hrun hhalted hstopped hi hbytes hexec
  have hidle : cpuIdle s = false := by rw [cpuIdle, hhalted, hstopped]; rfl
  have hfetch : fetchInstr s = i := fetchInstr_of_bytes hi hbytes
  have hcpu : cpuStep s = .next (addCycles (stepCost s) t) := cpuStep_awake hidle (by rw [hfetch]; exact hexec)
  rw [step_of_cpuStep hrun hcpu, stepCost_awake hidle, hfetch]

/-- Of the CPU's registers the devices only end a HALT (R702). -/
theorem deviceStep_cpuIs (n : Nat) (s : State) : CpuIs (deviceStep n s) s.cpu :=
  have h := mmuStep_deviceOnly n s
  ⟨h.cpu, h.wake⟩

/-- Settles O6: the paused scheduler's test comes first; an idle CPU only counts its cycles, and the devices leave its registers. -/
theorem idleStepFetchesNothing : Obligations.IdleStepFetchesNothing := by
  refine fun s => ⟨fun hpaused => ⟨if_pos hpaused, if_pos hpaused⟩, fun hrun hwaits => ⟨_, rfl, ?_, deviceStep_cpuIs _ _⟩⟩
  have hidle : cpuIdle s = true := by rw [cpuIdle, Bool.or_eq_true]; exact hwaits
  rw [step_of_cpuStep hrun (cpuStep_idle hidle), stepCost_idle hidle]

end Sys2Proof.Machine
end

section
/-! Loads, stores and stack transfers (40_loads.md R400 to R427): each form's encoding and cost, the forms of effect the loads share (one
register, one pair, one store), and the statements assembled from them. -/

namespace Sys2Proof.Machine

theorem codedAs_ldReg (dst src : R8) : CodedAs (.ldReg dst src) [opByte (0x40 + 8 * dst.code + src.code)] 4 := by
  cases dst <;> cases src <;> exact fun _ => ⟨rfl, rfl⟩

theorem codedAs_ldRegImm (dst : R8) (d8 : Byte) : CodedAs (.ldRegImm dst d8) [opByte (0x06 + 8 * dst.code), d8] 8 := by
  cases dst <;> exact fun _ => ⟨rfl, rfl⟩

theorem codedAs_ldRegAtHl (dst : R8) : CodedAs (.ldRegAtHl dst) [opByte (0x46 + 8 * dst.code)] 8 := by
  cases dst <;> exact fun _ => ⟨rfl, rfl⟩

theorem codedAs_ldAtHlReg (src : R8) : CodedAs (.ldAtHlReg src) [opByte (0x70 + src.code)] 8 := by
  cases src <;> exact fun _ => ⟨rfl, rfl⟩

theorem codedAs_ldPair (p : R16) (d16 : Word) :
    CodedAs (.ldPair p d16) [opByte (0x01 + 16 * p.code), loByte d16, hiByte d16] 12 := by
  cases p <;> exact fun _ => ⟨rfl, rfl⟩

theorem codedAs_push (p : R16Stack) : CodedAs (.push p) [opByte (0xC5 + 16 * p.code)] 16 := by
  cases p <;> exact fun _ => ⟨rfl, rfl⟩

theorem codedAs_pop (p : R16Stack) : CodedAs (.pop p) [opByte (0xC1 + 16 * p.code)] 12 := by
  cases p <;> exact fun _ => ⟨rfl, rfl⟩

/-! One register or one pair written, F as it was. -/

theorem setsReg_setReg8 {i : Instr} {s : State} {r : R8} {v : Byte} (he : exec i s = .next (setReg8 r v s)) :
    SetsReg i s r v s.cpu.f :=
  setsReg_of r v s.cpu.f he (by rw [← setReg8_f r v s])

theorem setsReg_loadA {i : Instr} {s : State} {addr : Word} (he : exec i s = .next (loadA addr s)) :
    SetsReg i s .a (read8 s addr) s.cpu.f :=
  setsReg_setReg8 he

theorem setsPair_setReg16 {i : Instr} {s : State} {p : R16} {v : Word} (he : exec i s = .next (setReg16 p v s)) :
    SetsPair i s p v s.cpu.f :=
  setsPair_of p v s.cpu.f he (by rw [← setReg16_f p v s])

/-! One store. -/

theorem storesByte_write8 {i : Instr} {s : State} {a : Word} {v : Byte} (he : exec i s = .next (write8 a v s)) :
    StoresByte i s a v s.cpu :=
  ⟨_, he, storedAt_write8 a v s⟩

theorem storesWord_write16 {i : Instr} {s : State} {a v : Word} (he : exec i s = .next (write16 a v s)) :
    StoresWord i s a v s.cpu :=
  ⟨_, he, storedAt16_write16 a v s⟩

/-- A push is a store at SP − 2 made with SP already there (R400). -/
theorem storesWord_push16 {i : Instr} {s : State} {v : Word} (he : exec i s = .next (push16 v s)) :
    StoresWord i s (s.cpu.sp - 2) v { s.cpu with sp := s.cpu.sp - 2 } :=
  ⟨_, he, storedAt16_of (s.cpu.sp - 2) v s _ { s.cpu with sp := s.cpu.sp - 2 } id (fun _ _ => rfl) rfl⟩

/-! HL stepped after the access (R417 to R420). -/

/-- The CPU registers with HL = `v`. -/
def Cpu.withHl (v : Word) (c : Cpu) : Cpu := { c with h := hiByte v, l := loByte v }

theorem setHl_eq_withHl (v : Word) (s : State) : setHl v s = { s with cpu := s.cpu.withHl v } := rfl

theorem keepsHalted_withHl (v : Word) : KeepsHalted (Cpu.withHl v) := fun _ _ => rfl

/-- The store leaves HL alone, so HL steps from its old value. -/
theorem storeAStep_eq (delta : Word) (s : State) : storeAStep delta s = setHl (hl s + delta) (write8 (hl s) s.cpu.a s) := by
  rw [storeAStep, storeA, hl_write8]

theorem storesByte_storeAStep {i : Instr} {s : State} {delta : Word} (he : exec i s = .next (storeAStep delta s)) :
    StoresByte i s (hl s) s.cpu.a (s.cpu.withHl (hl s + delta)) :=
  ⟨_, he, storedAt_of (hl s) s.cpu.a s _ s.cpu _ (keepsHalted_withHl _) (by rw [storeAStep_eq, setHl_eq_withHl])⟩

/-- Loading A leaves HL alone too. -/
theorem loadAStep_eq (delta : Word) (s : State) :
    loadAStep delta s = { s with cpu := { s.cpu with a := read8 s (hl s) }.withHl (hl s + delta) } := rfl

theorem setsCpu_loadAStep {i : Instr} {s : State} {delta : Word} (he : exec i s = .next (loadAStep delta s)) :
    SetsCpu i s ({ s.cpu with a := read8 s (hl s) }.withHl (hl s + delta)) :=
  setsCpu_of he (loadAStep_eq delta s)

/-! The popped value (R401). -/

@[simp] theorem hiByte_popValue (s : State) : hiByte (popValue s) = read8 s (s.cpu.sp + 1) := hiByte_joinBytes _ _

@[simp] theorem loByte_popValue (s : State) : loByte (popValue s) = read8 s s.cpu.sp := loByte_joinBytes _ _

/-- A pop writes CPU registers only. -/
theorem setsCpu_pop (p : R16Stack) (s : State) : SetsCpu (.pop p) s (popPair p s).cpu :=
  setsCpu_of (exec_pop p s) (by cases p <;> rfl)

theorem popPair_bc_cpu (s : State) : (popPair .bc s).cpu =
    { s.cpu with b := read8 s (s.cpu.sp + 1), c := read8 s s.cpu.sp, sp := s.cpu.sp + 2 } := by
  simp [popPair, setStackReg, popState]

theorem popPair_de_cpu (s : State) : (popPair .de s).cpu =
    { s.cpu with d := read8 s (s.cpu.sp + 1), e := read8 s s.cpu.sp, sp := s.cpu.sp + 2 } := by
  simp [popPair, setStackReg, popState]

theorem popPair_hl_cpu (s : State) : (popPair .hl s).cpu =
    { s.cpu with h := read8 s (s.cpu.sp + 1), l := read8 s s.cpu.sp, sp := s.cpu.sp + 2 } := by
  simp [popPair, setStackReg, popState]

/-- The low nibble of the byte popped into F is lost (R427). -/
theorem popPair_af_cpu (s : State) : (popPair .af s).cpu =
    { s.cpu with a := read8 s (s.cpu.sp + 1), f := read8 s s.cpu.sp &&& 0xF0, sp := s.cpu.sp + 2 } := by
  simp [popPair, setStackReg, popState]

end Sys2Proof.Machine

namespace Sys2Proof

open Machine

/-- Settles O8: each form is one `setReg8`, of a value read before the write. -/
theorem loadRegister : Obligations.LoadRegister :=
  ⟨fun dst src s => ⟨codedAs_ldReg dst src, setsReg_setReg8 (exec_ldReg dst src s)⟩,
    fun dst d8 s => ⟨codedAs_ldRegImm dst d8, setsReg_setReg8 (exec_ldRegImm dst d8 s)⟩,
    fun dst s => ⟨codedAs_ldRegAtHl dst, setsReg_setReg8 (exec_ldRegAtHl dst s)⟩⟩

/-- Settles O9: each form is one byte store at HL. -/
theorem storeAtHl : Obligations.StoreAtHl :=
  ⟨fun src s => ⟨codedAs_ldAtHlReg src, storesByte_write8 (exec_ldAtHlReg src s)⟩,
    fun _ _ => ⟨fun _ => ⟨rfl, rfl⟩, storesByte_write8 rfl⟩⟩

/-- Settles O10: each form is `loadA` at its address; the high page is 0xFF00 plus the offset. -/
theorem loadAFromAddress : Obligations.LoadAFromAddress := by
  intro a16 a8 s
  rw [← highPage_eq a8, ← highPage_eq s.cpu.c]
  refine ⟨⟨?_, setsReg_loadA rfl⟩, ⟨?_, setsReg_loadA rfl⟩, ⟨?_, setsReg_loadA rfl⟩, ⟨?_, setsReg_loadA rfl⟩,
    ⟨?_, setsReg_loadA rfl⟩⟩ <;> exact fun _ => ⟨rfl, rfl⟩

/-- Settles O11: each form is one byte store of A at its address; the high page is 0xFF00 plus the offset. -/
theorem storeAAtAddress : Obligations.StoreAAtAddress := by
  intro a16 a8 s
  rw [← highPage_eq a8, ← highPage_eq s.cpu.c]
  refine ⟨⟨?_, storesByte_write8 rfl⟩, ⟨?_, storesByte_write8 rfl⟩, ⟨?_, storesByte_write8 rfl⟩, ⟨?_, storesByte_write8 rfl⟩,
    ⟨?_, storesByte_write8 rfl⟩⟩ <;> exact fun _ => ⟨rfl, rfl⟩

/-- Settles O12: the access is at the old HL, which neither a store nor a load of A changes; HL − 1 is the step by −1. -/
theorem loadAndStoreAStepHl : Obligations.LoadAndStoreAStepHl := by
  intro s
  rw [sub_eq_add_neg (hl s) 1]
  refine ⟨⟨?_, storesByte_storeAStep rfl⟩, ⟨?_, storesByte_storeAStep rfl⟩, ⟨?_, setsCpu_loadAStep rfl⟩,
    ⟨?_, setsCpu_loadAStep rfl⟩⟩ <;> exact fun _ => ⟨rfl, rfl⟩

/-- Settles O13: each form is one `setReg16`. -/
theorem loadPair : Obligations.LoadPair :=
  ⟨fun p d16 s => ⟨codedAs_ldPair p d16, setsPair_setReg16 (exec_ldPair p d16 s)⟩,
    fun _ => ⟨fun _ => ⟨rfl, rfl⟩, setsPair_setReg16 rfl⟩⟩

/-- Settles O14: the instruction is one `write16`, whose two byte stores are in that order. -/
theorem storeSpAtAddress : Obligations.StoreSpAtAddress :=
  fun _ _ => ⟨fun _ => ⟨rfl, rfl⟩, storesWord_write16 rfl, rfl⟩

/-- Settles O15: PUSH is one `push16` of the pair, POP the two bytes at SP put into its registers. -/
theorem pushAndPopPair : Obligations.PushAndPopPair := by
  refine ⟨fun p s => ⟨codedAs_push p, ?push⟩, fun s =>
    ⟨⟨codedAs_pop .bc, ?bc⟩, ⟨codedAs_pop .de, ?de⟩, ⟨codedAs_pop .hl, ?hl⟩, ⟨codedAs_pop .af, ?af⟩⟩⟩
  case push => cases p <;> exact storesWord_push16 (exec_push _ s)
  case bc => exact popPair_bc_cpu s ▸ setsCpu_pop .bc s
  case de => exact popPair_de_cpu s ▸ setsCpu_pop .de s
  case hl => exact popPair_hl_cpu s ▸ setsCpu_pop .hl s
  case af => exact popPair_af_cpu s ▸ setsCpu_pop .af s

end Sys2Proof
end

section
/-! 8-bit arithmetic and logic (41_alu8.md R450 to R484): each form's encoding and cost, the two forms of effect of a result put back
with its flags (a register, or the byte at HL), the arithmetic of each flag rule, and the statements assembled from them. -/

namespace Sys2Proof.Machine

/-- The eight ALU operations in the order of the field y (R315). -/
theorem codedAs_alu {y : Nat} (hy : y < 8) (src : Src8) : CodedAs (.alu (aluOpOf y) src) (aluBytes y src) (aluCycles src) := by
  interval_cases y <;> obtain (((_ | _ | _ | _ | _ | _ | _) | _) | d8) := src <;> exact fun _ => ⟨rfl, rfl⟩

theorem codedAs_incReg (r : R8) : CodedAs (.incLoc (.reg r)) [opByte (0x04 + 8 * r.code)] 4 := by
  cases r <;> exact fun _ => ⟨rfl, rfl⟩

theorem codedAs_decReg (r : R8) : CodedAs (.decLoc (.reg r)) [opByte (0x05 + 8 * r.code)] 4 := by
  cases r <;> exact fun _ => ⟨rfl, rfl⟩

/-! A result put back with its flags. -/

theorem setsReg_putResult {i : Instr} {s : State} {r : R8} {res : Result8} {v : Byte} {fl : Flags}
    (he : exec i s = .next (putResult (.reg r) res s)) (hres : res = { res := v, fl := fl }) : SetsReg i s r v (packFlags fl) := by
  subst hres
  exact setsReg_of r v _ he rfl

theorem setsReg_alu (op : AluOp) (src : Src8) (s : State) {v : Byte} {fl : Flags}
    (hres : aluResult op s.cpu.a (readSrc s src) (flagC s) = { res := v, fl := fl }) :
    SetsReg (.alu op src) s .a v (packFlags fl) :=
  setsReg_putResult (exec_alu op src s) hres

theorem setsCpu_setFlags {i : Instr} {s : State} {fl : Flags} (he : exec i s = .next (setFlags fl s)) :
    SetsCpu i s { s.cpu with f := packFlags fl } :=
  setsCpu_of he rfl

/-- The CPU registers with F = `f`. -/
def Cpu.withF (f : Byte) (c : Cpu) : Cpu := { c with f := f }

theorem setFlags_eq_withF (fl : Flags) (s : State) : setFlags fl s = { s with cpu := s.cpu.withF (packFlags fl) } := rfl

theorem keepsHalted_withF (f : Byte) : KeepsHalted (Cpu.withF f) := fun _ _ => rfl

/-- The flags are written after the store, whatever became of it (R478, R480). -/
theorem storesByte_putResult {i : Instr} {s : State} {res : Result8} {v : Byte} {fl : Flags}
    (he : exec i s = .next (putResult .atHl res s)) (hres : res = { res := v, fl := fl }) :
    StoresByte i s (hl s) v { s.cpu with f := packFlags fl } := by
  subst hres
  exact ⟨_, he, storedAt_of (hl s) v s _ s.cpu _ (keepsHalted_withF _) (setFlags_eq_withF _ _)⟩

/-- CP writes A back unchanged (R474), so F alone is new. -/
theorem setsCpu_cp (src : Src8) (s : State) :
    SetsCpu (.alu .cp src) s { s.cpu with f := packFlags (sub8 s.cpu.a (readSrc s src) false).fl } :=
  setsCpu_of (exec_alu .cp src s) rfl

/-! The sums, differences and comparisons in the words of R450, R451 and R474. -/

theorem add8_eq (a b : Byte) (c : Bool) :
    add8 a b c =
      { res := opByte (a.toNat + b.toNat + c.toNat)
        fl := { z := decide (opByte (a.toNat + b.toNat + c.toNat) = 0), n := false,
                h := decide ((a &&& 0x0F).toNat + (b &&& 0x0F).toNat + c.toNat > 0x0F),
                c := decide (a.toNat + b.toNat + c.toNat > 0xFF) } } := by
  rw [lowNibble_eq, lowNibble_eq]
  rfl

theorem sub8_eq (a b : Byte) (c : Bool) :
    sub8 a b c =
      { res := a - b - opByte c.toNat
        fl := { z := decide (a - b - opByte c.toNat = 0), n := true,
                h := decide ((a &&& 0x0F).toNat < (b &&& 0x0F).toNat + c.toNat),
                c := decide (a.toNat < b.toNat + c.toNat) } } := by
  have hres : (sub8 a b c).res = a - b - opByte c.toNat := sub8_res a b c
  rw [lowNibble_eq, lowNibble_eq, ← hres]
  rfl

/-- A comparison is a difference with no borrow in: zero exactly for equal operands. -/
theorem sub8_noBorrow_fl (a b : Byte) :
    (sub8 a b false).fl =
      { z := decide (a = b), n := true, h := decide ((a &&& 0x0F).toNat < (b &&& 0x0F).toNat),
        c := decide (a.toNat < b.toNat) } := by
  have hz : a - b - opByte 0 = 0 ↔ a = b := by
    rw [opByte, BitVec.sub_zero]
    exact sub_eq_zero
  rw [sub8_eq]
  simp only [Bool.toNat_false, Nat.add_zero, hz]

/-- A bitwise result is zero exactly for equal operands of XOR (R468). -/
theorem logic8_xor (a b : Byte) :
    logic8 (a ^^^ b) false = { res := a ^^^ b, fl := { z := decide (a = b), n := false, h := false, c := false } } := by
  have hz : (a ^^^ b == 0) = decide (a = b) := by
    rw [Bool.eq_iff_iff, beq_iff_eq, decide_eq_true_eq]
    exact BitVec.xor_eq_zero_iff
  rw [logic8, hz]

/-! DAA (R481). -/

/-- The pseudocode of R481: N chooses the direction of both corrections, and only for N = 0 may the value itself call for one. -/
theorem daa8_eq (a : Byte) (n h c : Bool) :
    daa8 a n h c =
      let carry := c || (!n && decide (a.toNat > 0x99))
      let high : Byte := if carry then (if n then a - 0x60 else a + 0x60) else a
      let low : Byte :=
        if n then (if h then high - 0x06 else high)
        else if h = true ∨ (high &&& 0x0F).toNat > 0x09 then high + 0x06 else high
      { res := low, fl := { z := decide (low = 0), n := n, h := false, c := carry } } := by
  cases n
  case true => cases c <;> rfl
  case false =>
    simp only [lowNibble_eq]
    simp only [daa8, Bool.or_eq_true, decide_eq_true_eq, Bool.not_false, Bool.true_and]
    rfl

/-! DAA after ADD and SUB of BCD bytes: the digits' carries decide each correction. -/

theorem bcdByte_toNat {n : Nat} (hn : n < 100) : (bcdByte n).toNat = n / 10 * 16 + n % 10 := by
  rw [bcdByte, BitVec.toNat_ofNat]
  omega

theorem lowNibble_bcdByte {n : Nat} (hn : n < 100) : lowNibble (bcdByte n) = n % 10 := by
  rw [lowNibble, bcdByte_toNat hn]
  omega

/-- The high correction leaves the low digit alone, so both corrections are decided on the byte before them. -/
theorem daa8_add_toNat (a : Byte) (h c : Bool) :
    (daa8 a false h c).res.toNat =
      (a.toNat + (if c || decide (a.toNat > 0x99) then 0x60 else 0) + (if h || decide (lowNibble a > 0x09) then 0x06 else 0)) %
        256 := by
  have hdigit : ∀ high : Bool, lowNibble (if high then a + 0x60 else a) = lowNibble a := by
    rintro (_ | _)
    · rfl
    · show (a + 0x60).toNat % 16 = a.toNat % 16
      bv_omega
  simp only [daa8, Bool.false_eq_true, if_false, hdigit]
  split <;> split <;> bv_omega

theorem daa8_sub_toNat (a b : Byte) (h c : Bool) :
    (daa8 (a - b) true h c).res.toNat =
      (512 + a.toNat - b.toNat - (if c then 0x60 else 0) - (if h then 0x06 else 0)) % 256 := by
  simp only [daa8, if_true]
  split <;> split <;> bv_omega

/-! The digit arithmetic: `p` and `q` are the sums of the tens and of the units. -/

theorem tensCarry_iff {p q : Nat} (hq : q ≤ 18) : (16 * p + q > 0xFF ∨ (16 * p + q) % 256 > 0x99) ↔ 100 ≤ 10 * p + q := by
  omega

theorem unitsCarry_iff {p q : Nat} (hq : q ≤ 18) : (q > 0x0F ∨ (16 * p + q) % 256 % 16 > 0x09) ↔ 10 ≤ q := by
  omega

theorem sumTens_eq {p q : Nat} (hp : p ≤ 18) (hq : q ≤ 18) :
    (10 * p + q) % 100 / 10 = p + (if 10 ≤ q then 1 else 0) - (if 100 ≤ 10 * p + q then 10 else 0) := by
  split <;> split <;> omega

theorem correctedSum_eq {p q : Nat} (hp : p ≤ 18) (hq : q ≤ 18) :
    ((16 * p + q) % 256 + (if 100 ≤ 10 * p + q then 0x60 else 0) + (if 10 ≤ q then 0x06 else 0)) % 256 =
      (10 * p + q) % 100 / 10 * 16 + (10 * p + q) % 100 % 10 := by
  have htens := sumTens_eq hp hq
  split_ifs at htens ⊢ <;> omega

theorem correctedDifference_eq {x y : Nat} (hx : x < 100) (hy : y < 100) :
    (512 + (x / 10 * 16 + x % 10) - (y / 10 * 16 + y % 10) - (if x < y then 0x60 else 0) -
        (if x % 10 < y % 10 then 0x06 else 0)) % 256 =
      (x + 100 - y) % 100 / 10 * 16 + (x + 100 - y) % 100 % 10 := by
  split_ifs <;> omega

/-- The sum is corrected by 0x60 when the tens carry and by 0x06 when the units do. -/
theorem daa8_add_bcd {x y : Nat} (hx : x < 100) (hy : y < 100) :
    let sum := add8 (bcdByte x) (bcdByte y) false
    let adjusted := daa8 sum.res false sum.fl.h sum.fl.c
    adjusted.res = bcdByte ((x + y) % 100) ∧ adjusted.fl.c = decide (100 ≤ x + y) := by
  intro sum adjusted
  obtain ⟨p, hp⟩ : ∃ p, p = x / 10 + y / 10 := ⟨_, rfl⟩
  obtain ⟨q, hq⟩ : ∃ q, q = x % 10 + y % 10 := ⟨_, rfl⟩
  have hq18 : q ≤ 18 := by omega
  have hxy : x + y = 10 * p + q := by omega
  have hbytes : (bcdByte x).toNat + (bcdByte y).toNat = 16 * p + q := by
    rw [bcdByte_toNat hx, bcdByte_toNat hy]
    omega
  have hsum : sum.res.toNat = (16 * p + q) % 256 := hbytes ▸ BitVec.toNat_ofNat _ _
  have hc : sum.fl.c = decide (16 * p + q > 0xFF) := hbytes ▸ rfl
  have hh : sum.fl.h = decide (q > 0x0F) := by
    rw [hq, ← lowNibble_bcdByte hx, ← lowNibble_bcdByte hy]
    rfl
  have htens : (sum.fl.c || decide (sum.res.toNat > 0x99)) = decide (100 ≤ x + y) := by
    rw [hc, hsum, ← Bool.decide_or, hxy, decide_eq_decide]
    exact tensCarry_iff hq18
  have hunits : (sum.fl.h || decide (lowNibble sum.res > 0x09)) = decide (10 ≤ q) := by
    rw [hh, lowNibble, hsum, ← Bool.decide_or, decide_eq_decide]
    exact unitsCarry_iff hq18
  refine ⟨BitVec.eq_of_toNat_eq ?_, htens⟩
  rw [daa8_add_toNat, htens, hunits, hsum, bcdByte_toNat (Nat.mod_lt _ (by decide)), hxy, ← correctedSum_eq (by omega) hq18]
  simp only [decide_eq_true_eq]

/-- The difference is corrected by −0x60 when the tens borrow and by −0x06 when the units do. -/
theorem daa8_sub_bcd {x y : Nat} (hx : x < 100) (hy : y < 100) :
    let diff := sub8 (bcdByte x) (bcdByte y) false
    let adjusted := daa8 diff.res true diff.fl.h diff.fl.c
    adjusted.res = bcdByte ((x + 100 - y) % 100) ∧ adjusted.fl.c = decide (x < y) := by
  intro diff adjusted
  have hdiff : diff.res = bcdByte x - bcdByte y := by
    rw [sub8_res]
    exact BitVec.sub_zero _
  have htens : diff.fl.c = decide (x < y) := by
    show decide ((bcdByte x).toNat < (bcdByte y).toNat + 0) = _
    rw [bcdByte_toNat hx, bcdByte_toNat hy, decide_eq_decide]
    omega
  have hunits : diff.fl.h = decide (x % 10 < y % 10) := by
    show decide (lowNibble (bcdByte x) < lowNibble (bcdByte y) + 0) = _
    rw [lowNibble_bcdByte hx, lowNibble_bcdByte hy, Nat.add_zero]
  refine ⟨BitVec.eq_of_toNat_eq ?_, htens⟩
  show (daa8 diff.res true diff.fl.h diff.fl.c).res.toNat = _
  rw [hdiff, daa8_sub_toNat, htens, hunits, bcdByte_toNat hx, bcdByte_toNat hy, bcdByte_toNat (Nat.mod_lt _ (by decide)),
    ← correctedDifference_eq hx hy]
  simp only [decide_eq_true_eq]

theorem exec_cpl (s : State) : exec .cpl s = .next (complementA s) := rfl

theorem exec_daa (s : State) : exec .daa s = .next (decimalAdjust s) := rfl

/-- The N, H and C that DAA reads are those of the operation before it. -/
theorem exec_daa_aluOn (op : AluOp) (src : Src8) (s : State) :
    let r := aluResult op s.cpu.a (readSrc s src) (flagC s)
    exec .daa (aluOn op src s) = .next (putResult (.reg .a) (daa8 r.res r.fl.n r.fl.h r.fl.c) (aluOn op src s)) := by
  intro r
  have hN : flagN (aluOn op src s) = r.fl.n := flagN_setFlags _ _
  have hH : flagH (aluOn op src s) = r.fl.h := flagH_setFlags _ _
  have hC : flagC (aluOn op src s) = r.fl.c := flagC_setFlags _ _
  rw [exec_daa, decimalAdjust, hN, hH, hC]
  rfl

end Sys2Proof.Machine

namespace Sys2Proof

open Machine

/-- Settles O16: both operations are `add8`, with the carry flag or 0 carried in. -/
theorem addToA : Obligations.AddToA := by
  intro carry src s
  cases carry
  case false => exact ⟨codedAs_alu (y := 0) (by decide) src, setsReg_alu .add src s (add8_eq _ _ false)⟩
  case true => exact ⟨codedAs_alu (y := 1) (by decide) src, setsReg_alu .adc src s (add8_eq _ _ (flagC s))⟩

/-- Settles O17: both operations are `sub8`, with the carry flag or 0 borrowed in. -/
theorem subtractFromA : Obligations.SubtractFromA := by
  intro borrow src s
  cases borrow
  case false => exact ⟨codedAs_alu (y := 2) (by decide) src, setsReg_alu .sub src s (sub8_eq _ _ false)⟩
  case true => exact ⟨codedAs_alu (y := 3) (by decide) src, setsReg_alu .sbc src s (sub8_eq _ _ (flagC s))⟩

/-- Settles O18: the three operations are `logic8` of the bitwise result. -/
theorem logicOnA : Obligations.LogicOnA := fun src s =>
  ⟨⟨codedAs_alu (y := 4) (by decide) src, setsReg_alu .and src s rfl⟩,
    ⟨codedAs_alu (y := 5) (by decide) src, setsReg_alu .xor src s (logic8_xor s.cpu.a (readSrc s src))⟩,
    ⟨codedAs_alu (y := 6) (by decide) src, setsReg_alu .or src s rfl⟩⟩

/-- Settles O19: the flags are those of the difference with no borrow in. -/
theorem compareWithA : Obligations.CompareWithA := fun src s =>
  ⟨codedAs_alu (y := 7) (by decide) src, sub8_noBorrow_fl s.cpu.a (readSrc s src) ▸ setsCpu_cp src s⟩

/-- Settles O20: the stepped byte goes back to its place, a register or the byte at HL, with the flags of the byte read. -/
theorem incrementDecrementByte : Obligations.IncrementDecrementByte :=
  ⟨fun r s => ⟨⟨codedAs_incReg r, setsReg_putResult (exec_incLoc (.reg r) s) (inc8_eq _ _)⟩,
      ⟨codedAs_decReg r, setsReg_putResult (exec_decLoc (.reg r) s) (dec8_eq _ _)⟩⟩,
    fun s => ⟨⟨fun _ => ⟨rfl, rfl⟩, storesByte_putResult (exec_incLoc .atHl s) (inc8_eq _ _)⟩,
      ⟨fun _ => ⟨rfl, rfl⟩, storesByte_putResult (exec_decLoc .atHl s) (dec8_eq _ _)⟩⟩⟩

/-- Settles O21: the result of DAA is `daa8`'s, put back in A. -/
theorem decimalAdjust : Obligations.DecimalAdjust := fun s =>
  ⟨fun _ => ⟨rfl, rfl⟩, setsReg_putResult (exec_daa s) (daa8_eq _ _ _ _)⟩

/-- Settles O22: DAA corrects the sum or the difference by the flags that came with it. -/
theorem decimalAdjustGivesBcd : Obligations.DecimalAdjustGivesBcd := by
  intro x y s hx hy ha
  obtain ⟨hsum, hcarry⟩ := daa8_add_bcd hx hy
  obtain ⟨hdiff, hborrow⟩ := daa8_sub_bcd hx hy
  rw [← ha] at hsum hcarry hdiff hborrow
  exact ⟨⟨_, _, exec_aluImm .add _ s, exec_daa_aluOn .add _ s, hsum, (flagC_setFlags _ _).trans hcarry⟩,
    ⟨_, _, exec_aluImm .sub _ s, exec_daa_aluOn .sub _ s, hdiff, (flagC_setFlags _ _).trans hborrow⟩⟩

/-- Settles O23: CPL's XOR with 0xFF is the complement; SCF and CCF write F alone. -/
theorem complementAndCarry : Obligations.ComplementAndCarry := fun s =>
  ⟨⟨fun _ => ⟨rfl, rfl⟩, setsReg_putResult (exec_cpl s) (congrArg (Result8.mk · _) BitVec.xor_allOnes)⟩,
    ⟨fun _ => ⟨rfl, rfl⟩, setsCpu_setFlags rfl⟩, ⟨fun _ => ⟨rfl, rfl⟩, setsCpu_setFlags rfl⟩⟩

end Sys2Proof
end

section
/-! 16-bit arithmetic (42_alu16.md R500 to R504): the encoding and cost over the four pairs, the form of effect of a pair written with its
flags, the two sums in the words of R502 and R503, and the statements assembled from them. -/

namespace Sys2Proof.Machine

theorem codedAs_incPair (p : R16) : CodedAs (.incPair p) [opByte (0x03 + 16 * p.code)] 8 := by
  cases p <;> exact fun _ => ⟨rfl, rfl⟩

theorem codedAs_decPair (p : R16) : CodedAs (.decPair p) [opByte (0x0B + 16 * p.code)] 8 := by
  cases p <;> exact fun _ => ⟨rfl, rfl⟩

theorem codedAs_addHl (p : R16) : CodedAs (.addHl p) [opByte (0x09 + 16 * p.code)] 8 := by
  cases p <;> exact fun _ => ⟨rfl, rfl⟩

/-! A pair written, then the flags. -/

theorem setsPair_setFlags {i : Instr} {s : State} {p : R16} {v : Word} {fl : Flags}
    (he : exec i s = .next (setFlags fl (setReg16 p v s))) : SetsPair i s p v (packFlags fl) :=
  setsPair_of p v (packFlags fl) he rfl

theorem setsPair_addHl (p : R16) (s : State) {r : Result16} (hr : add16 (hl s) (reg16 s p) = r) :
    SetsPair (.addHl p) s .hl r.res (packFlags { z := flagZ s, n := false, h := r.h, c := r.c }) := by
  subst hr
  exact setsPair_setFlags (exec_addHl p s)

theorem setsPair_addSpE8 (e8 : Byte) (s : State) {r : Result16} (hr : addDisp s.cpu.sp e8 = r) :
    SetsPair (.addSpE8 e8) s .sp r.res (packFlags (dispFlags r)) := by
  subst hr
  exact setsPair_setFlags rfl

theorem setsPair_ldHlSpE8 (e8 : Byte) (s : State) {r : Result16} (hr : addDisp s.cpu.sp e8 = r) :
    SetsPair (.ldHlSpE8 e8) s .hl r.res (packFlags (dispFlags r)) := by
  subst hr
  exact setsPair_setFlags rfl

/-! The sums: the model takes the low bits as remainders, the rules mask them. -/

/-- A sum of the low twelve bits above 0x0FFF is the carry out of bit 11 (R502). -/
theorem add16_eq (a b : Word) :
    add16 a b =
      { res := a + b
        h := decide ((a &&& 0x0FFF).toNat + (b &&& 0x0FFF).toNat > 0x0FFF)
        c := decide (a.toNat + b.toNat > 0xFFFF) } := by
  rw [low12_eq, low12_eq, BitVec.add_def]
  rfl

theorem low4_eq (v : Word) : (v &&& 0x0F).toNat = v.toNat % 0x10 := by
  rw [BitVec.toNat_and]
  exact Nat.and_two_pow_sub_one_eq_mod v.toNat 4

theorem low8_eq (v : Word) : (v &&& 0xFF).toNat = v.toNat % 0x100 := by
  rw [BitVec.toNat_and]
  exact Nat.and_two_pow_sub_one_eq_mod v.toNat 8

/-- The displacement is signed in the sum and unsigned in both carries (R503). -/
theorem addDisp_eq (sp : Word) (e8 : Byte) :
    addDisp sp e8 =
      { res := sp + e8.signExtend 16
        h := decide ((sp &&& 0x0F).toNat + (e8 &&& 0x0F).toNat > 0x0F)
        c := decide ((sp &&& 0xFF).toNat + e8.toNat > 0xFF) } := by
  rw [low4_eq, low8_eq, lowNibble_eq]
  rfl

end Sys2Proof.Machine

namespace Sys2Proof

open Machine

/-- Settles O25: each form is one `setReg16`, which leaves F alone. -/
theorem incrementDecrementPair : Obligations.IncrementDecrementPair := fun p s =>
  ⟨⟨codedAs_incPair p, setsPair_setReg16 (exec_incPair p s)⟩, ⟨codedAs_decPair p, setsPair_setReg16 (exec_decPair p s)⟩⟩

/-- Settles O26: the operands, HL twice for ADD HL,HL, are read before HL is written. -/
theorem addPairToHl : Obligations.AddPairToHl := fun p s =>
  ⟨codedAs_addHl p, setsPair_addHl p s (add16_eq (hl s) (reg16 s p))⟩

/-- Settles O27: both forms write the one sum `addDisp` and its flags, to SP or to HL. -/
theorem addDisplacementToSp : Obligations.AddDisplacementToSp := fun e8 s =>
  ⟨⟨fun _ => ⟨rfl, rfl⟩, setsPair_addSpE8 e8 s (addDisp_eq s.cpu.sp e8)⟩,
    ⟨fun _ => ⟨rfl, rfl⟩, setsPair_ldHlSpE8 e8 s (addDisp_eq s.cpu.sp e8)⟩⟩

end Sys2Proof
end

section
/-! Rotates, shifts and bit operations (43_rotate_shift_bit.md R530 to R556): the encoding and cost of a CB instruction from the three
fields of its second byte, the rotates as the whole-byte operations of `rotSpec`, and the statements assembled from them. -/

namespace Sys2Proof

open Machine

/-! The operand fields and their codes (R302, R307, R308). -/

theorem Loc8.code_lt (x : Loc8) : x.code < 8 := by
  obtain (_ | _ | _ | _ | _ | _ | _) | _ := x <;> decide

theorem loc8Of_code (x : Loc8) : loc8Of x.code = x := by
  obtain (_ | _ | _ | _ | _ | _ | _) | _ := x <;> rfl

theorem Loc8.code_eq_six (x : Loc8) : x.code = 6 ↔ x = .atHl := by
  obtain (_ | _ | _ | _ | _ | _ | _) | _ := x <;> decide

theorem RotOp.code_lt (op : RotOp) : op.code < 8 := by cases op <;> decide

theorem rotOpOf_code (op : RotOp) : rotOpOf op.code = op := by cases op <;> rfl

theorem bitNumOf_val (b : Fin 8) : bitNumOf b.val = b := Fin.ofNat_val_eq_self b

/-! The second byte of a CB instruction: `k` selects the family, `y` the operation or the bit, and `x` is the operand (R318). -/

/-- Any CB instruction: its bytes are those it decodes from, and its cost is that of the second (R322, R968). -/
theorem codedAs_cbEntryOf (op2 : Byte) : CodedAs (cbEntryOf op2) [0xCB, op2] (cbCost op2) := by
  intro cfg
  rw [instrCost, encode_cbEntryOf]
  exact ⟨rfl, rfl⟩

/-- The fields of the byte are `k`, `y` and the code of `x`, and the code 6 is the one of the byte at HL. -/
theorem codedAs_cbOfFields {k y n : Nat} {x : Loc8} {i : Instr} (hi : cbOfFields k y x.code = i) (hk : k < 4) (hy : y < 8)
    (hn : n = 64 * k + 8 * y + x.code) :
    CodedAs i [0xCB, opByte n] (if x = .atHl then (if k = 1 then 12 else 16) else 8) := by
  have hx := x.code_lt
  have hbyte : (opByte n).toNat = n := Nat.mod_eq_of_lt (by omega)
  have hk' : n / 64 = k := by omega
  have hy' : n / 8 % 8 = y := by omega
  have hx' : n % 8 = x.code := by omega
  have h := codedAs_cbEntryOf (opByte n)
  rwa [cbEntryOf, cbCost, hbyte, hk', hy', hx', hi, if_congr x.code_eq_six rfl rfl] at h

theorem codedAs_rot (op : RotOp) (x : Loc8) :
    CodedAs (.rot op x) [0xCB, opByte (8 * op.code + x.code)] (if x = .atHl then 16 else 8) :=
  codedAs_cbOfFields (k := 0) (congrArg₂ Instr.rot (rotOpOf_code op) (loc8Of_code x)) (by decide) op.code_lt (by omega)

theorem codedAs_bit (b : Fin 8) (x : Loc8) :
    CodedAs (.bit b x) [0xCB, opByte (0x40 + 8 * b.val + x.code)] (if x = .atHl then 12 else 8) :=
  codedAs_cbOfFields (k := 1) (congrArg₂ Instr.bit (bitNumOf_val b) (loc8Of_code x)) (by decide) b.isLt rfl

theorem codedAs_res (b : Fin 8) (x : Loc8) {n : Nat} (hn : n = 0x80 + 8 * b.val + x.code) :
    CodedAs (.res b x) [0xCB, opByte n] (if x = .atHl then 16 else 8) :=
  codedAs_cbOfFields (k := 2) (congrArg₂ Instr.res (bitNumOf_val b) (loc8Of_code x)) (by decide) b.isLt hn

theorem codedAs_set (b : Fin 8) (x : Loc8) {n : Nat} (hn : n = 0xC0 + 8 * b.val + x.code) :
    CodedAs (.set b x) [0xCB, opByte n] (if x = .atHl then 16 else 8) :=
  codedAs_cbOfFields (k := 3) (congrArg₂ Instr.set (bitNumOf_val b) (loc8Of_code x)) (by decide) b.isLt hn

theorem codedAs_rotA {op : RotOp} {i : Instr} (h : Instr.rotA op = some i) : CodedAs i [opByte (0x07 + 8 * op.code)] 4 := by
  cases op <;> cases h <;> exact fun _ => ⟨rfl, rfl⟩

end Sys2Proof

namespace Sys2Proof.Machine

theorem exec_rotA {op : RotOp} {i : Instr} (h : Instr.rotA op = some i) (s : State) : exec i s = .next (rotateA op s) := by
  cases op <;> cases h <;> rfl

/-! The results of the rotates and shifts as whole-byte operations. -/

theorem rot8_eq (op : RotOp) (v : Byte) (cf : Bool) :
    rot8 op v cf =
      { res := (rotSpec v cf op).1
        fl := { z := decide ((rotSpec v cf op).1 = 0), n := false, h := false, c := (rotSpec v cf op).2 } } := by
  rw [rotSpec_eq]
  rfl

/-- The rotates of A share value and carry with those of the CB table; Z alone differs (R530). -/
theorem rotA8_eq (op : RotOp) (v : Byte) (cf : Bool) :
    rotA8 op v cf =
      { res := (rotSpec v cf op).1, fl := { z := false, n := false, h := false, c := (rotSpec v cf op).2 } } := by
  rw [rotSpec_eq]
  rfl

end Sys2Proof.Machine

namespace Sys2Proof

open Machine

/-- Settles O28: the rotated value goes back to A with the flags of `rotA8`, Z clear among them. -/
theorem rotateA : Obligations.RotateA := fun op _ s hi =>
  ⟨codedAs_rotA hi, setsReg_putResult (exec_rotA hi s) (rotA8_eq op s.cpu.a (flagC s))⟩

/-- Settles O29: the rotated or shifted value goes back to the register it was read from, with its flags. -/
theorem rotateShiftRegister : Obligations.RotateShiftRegister := fun op r s =>
  ⟨codedAs_rot op (.reg r), setsReg_putResult (exec_rot op (.reg r) s) (rot8_eq op (reg8 s r) (flagC s))⟩

/-- Settles O30: the value goes back to HL by one store, and the flags are those of the byte read before it. -/
theorem rotateShiftAtHl : Obligations.RotateShiftAtHl := fun op s =>
  ⟨codedAs_rot op .atHl, storesByte_putResult (exec_rot op .atHl s) (rot8_eq op (read8 s (hl s)) (flagC s))⟩

/-- Settles O31: BIT writes F alone. -/
theorem testBit : Obligations.TestBit := fun b x s => ⟨codedAs_bit b x, setsCpu_setFlags (exec_bit b x s)⟩

/-- Settles O32: the masked byte goes back to its place, a register or the byte at HL, by one write that leaves F alone. -/
theorem resetAndSetBit : Obligations.ResetAndSetBit := fun b r s =>
  ⟨⟨codedAs_res b (.reg r) rfl, setsReg_setReg8 (exec_res b (.reg r) s)⟩,
    ⟨codedAs_set b (.reg r) rfl, setsReg_setReg8 (exec_set b (.reg r) s)⟩,
    ⟨codedAs_res b .atHl (Nat.add_right_comm 0x80 6 _), storesByte_write8 (exec_res b .atHl s)⟩,
    ⟨codedAs_set b .atHl (Nat.add_right_comm 0xC0 6 _), storesByte_write8 (exec_set b .atHl s)⟩⟩

end Sys2Proof
end

section
/-! Jumps, calls, returns and restarts (44_control.md R570 to R581): the encoding and cost of the conditional forms and of RST, the two
forms of effect of the family (CPU registers alone, or a push of PC followed by a jump), the branch that a condition selects, and the
statements assembled from them. -/

namespace Sys2Proof.Machine

theorem codedCond_jpCond (cc : Cond) (a16 : Word) :
    CodedCond (.jpCond cc a16) [opByte (0xC2 + 8 * cc.code), loByte a16, hiByte a16] 12 16 :=
  codedCond_of fun _ => by cases cc <;> exact ⟨rfl, rfl⟩

theorem codedCond_jrCond (cc : Cond) (e8 : Byte) : CodedCond (.jrCond cc e8) [opByte (0x20 + 8 * cc.code), e8] 8 12 :=
  codedCond_of fun _ => by cases cc <;> exact ⟨rfl, rfl⟩

theorem codedCond_callCond (cc : Cond) (a16 : Word) :
    CodedCond (.callCond cc a16) [opByte (0xC4 + 8 * cc.code), loByte a16, hiByte a16] 12 24 :=
  codedCond_of fun _ => by cases cc <;> exact ⟨rfl, rfl⟩

theorem codedCond_retCond (cc : Cond) : CodedCond (.retCond cc) [opByte (0xC0 + 8 * cc.code)] 8 20 :=
  codedCond_of fun _ => by cases cc <;> exact ⟨rfl, rfl⟩

theorem codedAs_rst (y : Fin 8) : CodedAs (.rst y) [opByte (0xC7 + 8 * y.val)] 16 := by
  fin_cases y <;> exact fun _ => ⟨rfl, rfl⟩

/-! What a condition selects (R570). -/

theorem whenCond_of_holds {cc : Cond} {s : State} (h : condHolds cc s = true) (f : State → State) : whenCond cc f s = f s :=
  if_pos h

theorem whenCond_of_fails {cc : Cond} {s : State} (h : condHolds cc s = false) (f : State → State) : whenCond cc f s = s :=
  if_neg (Bool.eq_false_iff.mp h)

/-- Where the effect writes CPU registers only, the conditional form writes them or leaves them. -/
theorem setsCpu_whenCond {i : Instr} {s : State} {cc : Cond} {f : State → State} {c : Cpu}
    (he : exec i s = .next (whenCond cc f s)) (hf : f s = { s with cpu := c }) :
    SetsCpu i s (if condHolds cc s then c else s.cpu) := by
  cases hc : condHolds cc s
  case true => exact setsCpu_of he ((whenCond_of_holds hc f).trans hf)
  case false => exact setsCpu_of he (whenCond_of_fails hc f)

/-! The effects: a jump, a call, a return. -/

theorem setsCpu_setPc {i : Instr} {s : State} {v : Word} (he : exec i s = .next (setPc v s)) :
    SetsCpu i s { s.cpu with pc := v } :=
  setsCpu_of he rfl

/-- The CPU registers with PC = `v`. -/
def Cpu.withPc (v : Word) (c : Cpu) : Cpu := { c with pc := v }

theorem setPc_eq_withPc (v : Word) (s : State) : setPc v s = { s with cpu := s.cpu.withPc v } := rfl

theorem keepsHalted_withPc (v : Word) : KeepsHalted (Cpu.withPc v) := fun _ _ => rfl

/-- A call stores PC at SP − 2 with SP already there, and then jumps (R576, R581). -/
theorem storesWord_call {i : Instr} {s : State} {v : Word} (he : exec i s = .next (call v s)) :
    StoresWord i s (s.cpu.sp - 2) s.cpu.pc { s.cpu with sp := s.cpu.sp - 2, pc := v } :=
  ⟨_, he, storedAt16_of (s.cpu.sp - 2) s.cpu.pc s _ { s.cpu with sp := s.cpu.sp - 2 } (Cpu.withPc v) (keepsHalted_withPc v)
    (setPc_eq_withPc v _)⟩

/-- A return writes PC and SP only (R578). -/
theorem ret_eq (s : State) :
    ret s =
      { s with cpu := { s.cpu with pc := joinBytes (read8 s (s.cpu.sp + 1)) (read8 s s.cpu.sp), sp := s.cpu.sp + 2 } } := rfl

/-- The return from an interrupt is a return that also sets IME (R580). -/
theorem returnFromInterrupt_eq (s : State) :
    returnFromInterrupt s = { s with cpu := { (ret s).cpu with ime := true } } := rfl

end Sys2Proof.Machine

namespace Sys2Proof

open Machine

/-- Settles O33: each form is one `setPc`, under the condition where there is one. -/
theorem jumps : Obligations.Jumps := fun cc a16 e8 s =>
  ⟨⟨fun _ => ⟨rfl, rfl⟩, setsCpu_setPc rfl⟩,
    ⟨codedCond_jpCond cc a16, setsCpu_whenCond (exec_jpCond cc a16 s) rfl⟩,
    ⟨fun _ => ⟨rfl, rfl⟩, setsCpu_setPc rfl⟩,
    ⟨fun _ => ⟨rfl, rfl⟩, setsCpu_setPc rfl⟩,
    ⟨codedCond_jrCond cc e8, setsCpu_whenCond (exec_jrCond cc e8 s) rfl⟩⟩

/-- Settles O34: each form is one `call`, or nothing where a condition fails. -/
theorem callsAndRestarts : Obligations.CallsAndRestarts := by
  intro cc y a16 s
  have he : exec (.callCond cc a16) s = .next (whenCond cc (call a16) s) := exec_callCond cc a16 s
  refine ⟨⟨fun _ => ⟨rfl, rfl⟩, storesWord_call rfl⟩, codedCond_callCond cc a16, ?taken, ?notTaken,
    ⟨codedAs_rst y, storesWord_call (exec_rst y s)⟩⟩
  case taken => exact fun hc => storesWord_call (whenCond_of_holds hc (call a16) ▸ he)
  case notTaken => exact fun hc => setsCpu_of he (whenCond_of_fails hc (call a16))

/-- Settles O35: each form is one `ret`, under the condition where there is one; RETI sets IME after it. -/
theorem returns : Obligations.Returns := fun cc s =>
  ⟨⟨fun _ => ⟨rfl, rfl⟩, setsCpu_of rfl (ret_eq s)⟩,
    ⟨codedCond_retCond cc, setsCpu_whenCond (exec_retCond cc s) (ret_eq s)⟩,
    ⟨fun _ => ⟨rfl, rfl⟩, setsCpu_of rfl (returnFromInterrupt_eq s)⟩⟩

end Sys2Proof
end

section
/-! Control of the CPU (45_system.md R600 to R606): the encoding and cost of STOP and of the unrecognized opcodes, what the CB entry of
a byte does, and the statements assembled from them. -/

namespace Sys2Proof.Machine

/-- STOP_LENGTH changes the bytes of STOP and not its cost (R602, R968). -/
theorem instrCost_stop (cfg : Config) : instrCost cfg .stop = 4 := by
  unfold instrCost
  cases cfg.stopLength <;> rfl

theorem encode_illegal (sl : StopLength) (u : Unrecognized) : encode sl (.illegal u) = [u.opcode] := by cases u <;> rfl

theorem instrCost_illegal (cfg : Config) (u : Unrecognized) : instrCost cfg (.illegal u) = cfg.illegalOpcodeCycles := by
  cases u <;> rfl

/-- The decoder and the prefix read a CB byte alike: bits 7 and 6 select the family (R318). -/
theorem exec_cbEntryOf (b : Byte) (s : State) : exec (cbEntryOf b) s = .next (runCbEntry b s) := by
  unfold cbEntryOf cbOfFields runCbEntry
  match b.toNat / 64 with
  | 0 => exact exec_rot _ _ s
  | 1 => exact exec_bit _ _ s
  | 2 => exact exec_res _ _ s
  | _ + 3 => exact exec_set _ _ s

theorem exec_prefixCb (s : State) : exec .prefixCb s = .next (runCbEntry (read8 s s.cpu.pc) (setPc (s.cpu.pc + 1) s)) := rfl

end Sys2Proof.Machine

namespace Sys2Proof

open Machine

/-- Settles O36: each instruction writes one bit of the CPU or nothing. -/
theorem systemInstructions : Obligations.SystemInstructions := fun u s =>
  ⟨⟨fun _ => ⟨rfl, rfl⟩, setsCpu_of rfl rfl⟩,
    ⟨fun _ => ⟨rfl, rfl⟩, setsCpu_of rfl rfl⟩,
    ⟨fun _ => ⟨rfl, rfl⟩, setsCpu_of rfl rfl⟩,
    ⟨fun _ => ⟨rfl, rfl⟩, setsCpu_of rfl rfl⟩,
    ⟨fun cfg => ⟨rfl, instrCost_stop cfg⟩, setsCpu_of rfl rfl⟩,
    ⟨fun cfg => ⟨encode_illegal cfg.stopLength u, instrCost_illegal cfg u⟩, setsCpu_of (exec_illegal u s) rfl⟩⟩

/-- Settles O37: both sides run the CB entry of that byte on the state with PC past it. -/
theorem prefixRunsItsCbEntry : Obligations.PrefixRunsItsCbEntry := fun s =>
  ⟨(exec_prefixCb s).trans (exec_cbEntryOf (read8 s s.cpu.pc) (setPc (s.cpu.pc + 1) s)).symm, _, exec_prefixCb s⟩

end Sys2Proof
end

section
/-! Exceptions and interrupts (60_exceptions.md R700 to R718): that every instruction and every form of the step answers a next state, what
serving a source does to the machine, which source the dispatch check serves, and what ends a HALT and a STOP. -/

namespace Sys2Proof.Machine

/-! Nothing traps (R700). -/

/-- No instruction faults or is refused: each family has its meaning, and the other rows have their own. -/
theorem exec_total (i : Instr) (s : State) : ∃ t, exec i s = .next t := by
  cases ofFamily i with
  | ldReg dst src => exact ⟨_, exec_ldReg dst src s⟩
  | ldRegImm dst d8 => exact ⟨_, exec_ldRegImm dst d8 s⟩
  | ldRegAtHl dst => exact ⟨_, exec_ldRegAtHl dst s⟩
  | ldAtHlReg src => exact ⟨_, exec_ldAtHlReg src s⟩
  | incLoc x => exact ⟨_, exec_incLoc x s⟩
  | decLoc x => exact ⟨_, exec_decLoc x s⟩
  | aluLoc op x => exact ⟨_, exec_aluLoc op x s⟩
  | aluImm op d8 => exact ⟨_, exec_aluImm op d8 s⟩
  | ldPair p d16 => exact ⟨_, exec_ldPair p d16 s⟩
  | incPair p => exact ⟨_, exec_incPair p s⟩
  | decPair p => exact ⟨_, exec_decPair p s⟩
  | addHl p => exact ⟨_, exec_addHl p s⟩
  | push p => exact ⟨_, exec_push p s⟩
  | pop p => exact ⟨_, exec_pop p s⟩
  | jpCond cc a16 => exact ⟨_, exec_jpCond cc a16 s⟩
  | jrCond cc e8 => exact ⟨_, exec_jrCond cc e8 s⟩
  | callCond cc a16 => exact ⟨_, exec_callCond cc a16 s⟩
  | retCond cc => exact ⟨_, exec_retCond cc s⟩
  | rst y => exact ⟨_, exec_rst y s⟩
  | rot op x => exact ⟨_, exec_rot op x s⟩
  | bit b x => exact ⟨_, exec_bit b x s⟩
  | res b x => exact ⟨_, exec_res b x s⟩
  | set b x => exact ⟨_, exec_set b x s⟩
  | illegal u => exact ⟨_, exec_illegal u s⟩
  | _ => exact ⟨_, rfl⟩

theorem cpuStep_total (s : State) : ∃ t, cpuStep s = .next t := by
  cases hidle : cpuIdle s with
  | true => exact ⟨_, cpuStep_idle hidle⟩
  | false =>
    obtain ⟨t, ht⟩ := exec_total (fetchInstr s) (advancePc (fetchInstr s) s)
    exact ⟨_, cpuStep_awake hidle ht⟩

theorem frameStep_total (s : State) : ∃ t, frameStep s = .next t := by
  obtain ⟨t, ht⟩ := cpuStep_total s
  exact ⟨_, by rw [frameStep, iterate, ht]⟩

theorem frameLoop_total (fuel : Nat) (s : State) : ∃ t, frameLoop fuel s = .next t := by
  induction fuel generalizing s with
  | zero => exact ⟨s, rfl⟩
  | succ n ih =>
    obtain ⟨t, ht⟩ := frameStep_total s
    rw [frameLoop, ht]
    dsimp only
    split
    · exact ih t
    · exact ⟨t, rfl⟩
    · exact ⟨t, rfl⟩

/-- Where the scheduler's test keeps the state or runs a total pass, a next state comes out (R910). -/
theorem ite_total {p : Prop} [Decidable p] {s : State} {pass : Host.Outcome State Fault Refusal} (h : ∃ t, pass = .next t) :
    ∃ t, (if p then .next s else pass) = .next t := by
  split
  · exact ⟨s, rfl⟩
  · exact h

/-! Taking an interrupt (R705, R707). -/

/-- Serving a source with IME set is a push of PC made with the IF bit already clear, and a jump to the vector. -/
theorem dispatch_storedAt16 (b : IntSource) {s : State} (h : s.cpu.ime = true) :
    StoredAt16 { s with ic.reqs := s.ic.reqs &&& ~~~ b.mask, ic.phase := .idle } (dispatch b s) (s.cpu.sp - 2) s.cpu.pc
      { s.cpu with ime := false, halted := false, sp := s.cpu.sp - 2, pc := b.vector } :=
  storedAt16_of (s.cpu.sp - 2) s.cpu.pc _ _ { s.cpu with ime := false, halted := false, sp := s.cpu.sp - 2 }
    (Cpu.withPc b.vector) (keepsHalted_withPc b.vector) ((dispatch_taken b s h).trans (setPc_eq_withPc b.vector _))

theorem interrupt_of_not_ime {s : State} (h : s.cpu.ime = false) (vector : Word) : interrupt vector s = s :=
  if_neg (by simp [h])

/-- With IME clear, serving a source only clears its IF bit. -/
theorem dispatch_of_not_ime (b : IntSource) {s : State} (h : s.cpu.ime = false) :
    dispatch b s = { s with ic.reqs := s.ic.reqs &&& ~~~ b.mask, ic.phase := .idle } := by
  have hnoop := interrupt_of_not_ime (s := { s with ic.phase := .dispatching, ic.reqs := s.ic.reqs &&& ~~~ b.mask }) h b.vector
  exact congrArg (State.inPhase · .idle) hnoop

/-! Which source is served (R704, R705, R706). -/

theorem IntSource.forall_iff {p : IntSource → Prop} :
    (∀ b, p b) ↔ p .vblank ∧ p .lcdStat ∧ p .timer ∧ p .serial ∧ p .joypad :=
  ⟨fun h => ⟨h _, h _, h _, h _, h _⟩, fun ⟨h0, h1, h2, h3, h4⟩ b => by cases b <;> assumption⟩

/-- A source is pending where its bit is set in both IE and IF (R704). -/
theorem pendingBits_bit (s : State) (b : IntSource) :
    (pendingBits s).getLsbD b.bit = (s.ic.ie.getLsbD b.bit && s.ic.reqs.getLsbD b.bit) := by
  cases b <;> simp [pendingBits, IntSource.bit]

theorem pendingSource_eq_none {s : State} (h : ∀ b : IntSource, (pendingBits s).getLsbD b.bit = false) : pendingSource s = none := by
  simp only [IntSource.forall_iff, IntSource.bit] at h
  simp only [pendingSource, h, Bool.false_eq_true, if_false]

/-- The tests go from bit 0 up, so the first to succeed is the lowest-numbered pending source (R706). -/
theorem pendingSource_eq_some {s : State} {b : IntSource} (hb : (pendingBits s).getLsbD b.bit = true)
    (hlow : ∀ c : IntSource, c.bit < b.bit → (pendingBits s).getLsbD c.bit = false) : pendingSource s = some b := by
  simp only [IntSource.forall_iff] at hlow
  cases b <;> simp_all [pendingSource, IntSource.bit]

theorem dispatchSource_of_ime {s : State} (h : s.cpu.ime = true) : dispatchSource s = pendingSource s := if_pos h

theorem dispatchSource_of_not_ime {s : State} (h : s.cpu.ime = false) : dispatchSource s = none := if_neg (by simp [h])

/-- Without a source to serve, neither the check nor the iteration's dispatch half does anything. -/
theorem dispatch_of_source_none {s : State} (h : dispatchSource s = none) : checkAndDispatch s = s ∧ dispatchStep s = s := by
  rw [checkAndDispatch, dispatchStep, h]
  exact ⟨rfl, rfl⟩

/-- A source to serve is served, and the iteration then counts DISPATCH_CYCLES and advances the devices by them (R708). -/
theorem dispatch_of_source_some {s : State} {b : IntSource} (h : dispatchSource s = some b) :
    checkAndDispatch s = dispatch b s ∧
    dispatchStep s = deviceStep s.cfg.dispatchCycles (addCycles s.cfg.dispatchCycles (dispatch b s)) := by
  rw [checkAndDispatch, dispatchStep, h]
  exact ⟨rfl, rfl⟩

/-! What clears `stopped` (R703, R717): a press, and none of a store, a device step and a dispatch. -/

theorem CpuIs.stopped {t : State} {c : Cpu} (h : CpuIs t c) : t.cpu.stopped = c.stopped := by rw [h.1]

theorem write8_stopped (a : Word) (v : Byte) (s : State) : (write8 a v s).cpu.stopped = s.cpu.stopped := by
  rw [(write8_storeOnly a v s).cpu]

theorem mmuStep_stopped (n : Nat) (s : State) : (mmuStep n s).cpu.stopped = s.cpu.stopped := by
  rw [(mmuStep_deviceOnly n s).cpu]

theorem dispatch_stopped (b : IntSource) (s : State) : (dispatch b s).cpu.stopped = s.cpu.stopped := by
  cases hime : s.cpu.ime with
  | true =>
    obtain ⟨-, hcpu, -, -⟩ := dispatch_storedAt16 b hime
    exact hcpu.stopped
  | false =>
    rw [dispatch_of_not_ime b hime]

theorem press_of_pressed {key : Button} {s : State} (h : s.joy.pressed key = true) : press key s = s := if_pos h

/-- A press transition ends a STOP and requests the Joypad interrupt (R717). -/
theorem press_of_not_pressed {key : Button} {s : State} (h : s.joy.pressed key = false) :
    press key s = request .joypad { s with joy := s.joy.setPressed key true, cpu.stopped := false } :=
  if_neg (by simp [h])

end Sys2Proof.Machine

namespace Sys2Proof

open Machine

/-- Settles O7: `exec` answers a next state, and so do the CPU step, the pass of the frame loop and the loop built on it. -/
theorem nothingTraps : Obligations.NothingTraps :=
  ⟨exec_total, fun s => ite_total (frameStep_total s), fun _ => ite_total (frameLoop_total _ _), cpuStep_total⟩

/-- Settles O38: serving a source is one push with the IF bit clear and a jump to the vector. -/
theorem takingAnInterrupt : Obligations.TakingAnInterrupt := fun b _ =>
  ⟨dispatch_storedAt16 b, fun vector hime => interrupt_of_not_ime hime vector⟩

/-- Settles O39: the check's source is none, or the lowest-numbered pending one. -/
theorem dispatchCheck : Obligations.DispatchCheck := by
  intro s pending
  have hpending : ∀ b, pending b = (pendingBits s).getLsbD b.bit := fun b => (pendingBits_bit s b).symm
  simp only [hpending]
  refine ⟨fun hnone => dispatch_of_source_none ?none, fun b hime hb hlow => dispatch_of_source_some ?lowest⟩
  case none =>
    cases hime : s.cpu.ime with
    | false => exact dispatchSource_of_not_ime hime
    | true =>
      have hno := hnone.resolve_left (by simp [hime])
      exact (dispatchSource_of_ime hime).trans (pendingSource_eq_none hno)
  case lowest => exact (dispatchSource_of_ime hime).trans (pendingSource_eq_some hb hlow)

/-- Settles O40: a request and a release are one update each, and a press goes by the button's mark. -/
theorem requestsAndButtons : Obligations.RequestsAndButtons := fun _ _ _ =>
  ⟨rfl, press_of_pressed, press_of_not_pressed, rfl,
    fun a v n c => ⟨write8_stopped a v _, mmuStep_stopped n _, dispatch_stopped c _⟩⟩

end Sys2Proof
end

section
/-! The timer (61_timer.md R760 to R766): its step in any cut of the cycles, its rates, and the tick on overflow. -/

namespace Sys2Proof.Machine

/-- A counter that wraps at `p` and is run by `m` and then `n` wraps as often as one run by `m + n`. -/
theorem div_add_div_mod_add (c m n : Nat) {p : Nat} (hp : 0 < p) : (c + m) / p + ((c + m) % p + n) / p = (c + (m + n)) / p := by
  rw [← Nat.mul_add_div hp, ← Nat.add_assoc, Nat.div_add_mod, Nat.add_assoc c m n]

/-- Such a counter keeps the same remainder. -/
theorem mod_add_mod_eq (c m n p : Nat) : ((c + m) % p + n) % p = (c + (m + n)) % p := by
  rw [Nat.mod_add_mod, Nat.add_assoc]

theorem div_add_ofNat (d : Byte) (j k : Nat) : d + BitVec.ofNat 8 j + BitVec.ofNat 8 k = d + BitVec.ofNat 8 (j + k) := by
  rw [BitVec.add_assoc, ← BitVec.ofNat_add]

theorem setCounters_setCounters (d e : Byte) (c b t u : Nat) (s : State) :
    (s.setCounters d c t).setCounters e b u = s.setCounters e b u := rfl

/-- Two timer steps count DIV, and tick TIMA where it is enabled, as often as one of the sum (R760). -/
theorem timerStep_timerStep (m n : Nat) (s : State) : timerStep n (timerStep m s) = timerStep (m + n) s := by
  have htac : (timerStep m s).timer.tac = s.timer.tac := (timerStep_deviceOnly m s).tac
  have hdiv := div_add_div_mod_add s.timer.divCounter m n (p := 256) (by decide)
  have hdivRest := mod_add_mod_eq s.timer.divCounter m n 256
  have htima := div_add_div_mod_add s.timer.timaCounter m n (timerPeriod_pos s.timer.tac)
  have htimaRest := mod_add_mod_eq s.timer.timaCounter m n (timerPeriod s.timer.tac)
  rw [timerStep_eq n, htac]
  by_cases hon : timerEnabled s.timer.tac = true
  · simp only [timerStep_eq, if_pos hon, timaTicks_setCounters, setCounters_setCounters, timaTicks_add]
    simp only [State.setCounters, div_add_ofNat, hdiv, hdivRest, htima, htimaRest]
  · simp only [timerStep_eq, if_neg hon, setCounters_setCounters]
    simp only [State.setCounters, div_add_ofNat, hdiv, hdivRest]

/-- DIV and its sub-counter after a step, whatever the timer's enable bit (R760). -/
theorem timerStep_div (n : Nat) (s : State) :
    (timerStep n s).timer.div = s.timer.div + BitVec.ofNat 8 ((s.timer.divCounter + n) / 256) ∧
      (timerStep n s).timer.divCounter = (s.timer.divCounter + n) % 256 := by
  rw [timerStep_eq]
  split <;> exact ⟨rfl, rfl⟩

/-- DIV and its sub-counter are the two bytes of one counter of all cycles. -/
theorem timerStep_divCount (n : Nat) (s : State) :
    ((timerStep n s).timer.div.toNat * 256 + (timerStep n s).timer.divCounter) % 65536 =
      (s.timer.div.toNat * 256 + s.timer.divCounter + n) % 65536 := by
  obtain ⟨hdiv, hcounter⟩ := timerStep_div n s
  rw [hdiv, hcounter, BitVec.toNat_add, BitVec.toNat_ofNat]
  omega

/-- A disabled timer leaves TIMA, its sub-counter and IF alone (R760). -/
theorem timerStep_disabled (n : Nat) {s : State} (h : timerEnabled s.timer.tac = false) : timerStep n s = divStep n s :=
  if_neg (by rw [show (divStep n s).timer.tac = s.timer.tac from rfl, h]; decide)

/-- From an empty sub-counter, one period is one tick (R760). -/
theorem timaStep_period {s : State} (hon : timerEnabled s.timer.tac = true) (hzero : s.timer.timaCounter = 0) :
    timaStep (timerPeriod s.timer.tac) s = timaTick s := by
  unfold timaStep
  rw [if_pos hon]
  dsimp only
  rw [hzero, Nat.zero_add, Nat.div_self (timerPeriod_pos _), Nat.mod_self, ← hzero]
  rfl

/-- The periods of R766, by TAC's clock select. -/
theorem timerPeriod_eq (tac : BitVec 3) : timerPeriod tac = [1024, 16, 64, 256].getD (tac.toNat % 4) 0 := by
  revert tac
  decide

/-- Settles O47: the sum of the steps by the counters' quotients and remainders, and the rates by one period of the sub-counter. -/
theorem timerTickAndRates : Obligations.TimerTickAndRates := by
  refine ⟨timerStep_timerStep, fun n s _ => ⟨?_, timerStep_divCount n s⟩, fun n s hoff => ?_, fun s hon hzero => ?_,
    fun s => ⟨fun hfull => if_pos hfull, fun hroom => if_neg hroom⟩⟩
  · rw [(timerStep_div n s).2]
    exact Nat.mod_lt _ (by decide)
  · rw [timerStep_disabled n hoff]
    exact ⟨rfl, rfl, rfl⟩
  · rw [← timerPeriod_eq, timaStep_period hon hzero]

end Sys2Proof.Machine
end

section
/-! The PPU's mode machine (62_ppu.md R800 to R814): a step in any cut of the cycles, each transition, the lines and the frame they
make, and the display's on and off. -/

namespace Sys2Proof.Machine

/-! A step in any cut of the cycles (R802). -/

theorem ppuStep_on {s : State} (h : displayOn s = true) (n : Nat) :
    ppuStep n s = ppuLoop ((s.ppu.acc + n) / 80) (s.addAcc n) := if_pos h

theorem ppuStep_off {s : State} (h : displayOn s = false) (n : Nat) : ppuStep n s = s := if_neg (by rw [h]; decide)

theorem ppuLoop_acc_le (f : Nat) (s : State) : (ppuLoop f s).ppu.acc ≤ s.ppu.acc := by
  induction f generalizing s with
  | zero => exact le_refl _
  | succ f ih =>
    by_cases h : s.ppu.acc < s.ppu.mode.length
    · rw [ppuLoop_done _ _ h]
    · rw [ppuLoop_due _ _ h]
      exact (ih _).trans (by rw [ppuTransition_acc]; exact Nat.sub_le _ _)

theorem ppuLoop_lcdc (f : Nat) (s : State) : (ppuLoop f s).ppu.lcdc = s.ppu.lcdc := by
  induction f generalizing s with
  | zero => rfl
  | succ f ih =>
    by_cases h : s.ppu.acc < s.ppu.mode.length
    · rw [ppuLoop_done _ _ h]
    · rw [ppuLoop_due _ _ h, ih, ppuTransition_lcdc]

theorem displayOn_of_lcdc {s t : State} (h : t.ppu.lcdc = s.ppu.lcdc) : displayOn t = displayOn s := by
  unfold displayOn lcdcBit
  rw [h]

/-- A step leaves the display on or off as it was. -/
theorem displayOn_ppuStep (n : Nat) (s : State) : displayOn (ppuStep n s) = displayOn s := by
  cases hon : displayOn s with
  | false => rw [ppuStep_off hon, hon]
  | true => rw [ppuStep_on hon]; exact (displayOn_of_lcdc (ppuLoop_lcdc _ (s.addAcc n))).trans hon

/-- Two steps run the transitions that one step of the sum runs: the cycles of the second can be there before the first's loop. -/
theorem ppuStep_ppuStep (m n : Nat) (s : State) : ppuStep n (ppuStep m s) = ppuStep (m + n) s := by
  cases hon : displayOn s with
  | false => rw [ppuStep_off hon, ppuStep_off hon, ppuStep_off hon]
  | true =>
    have hle := ppuLoop_acc_le ((s.ppu.acc + m) / 80) (s.addAcc m)
    rw [addAcc_ppu] at hle
    rw [ppuStep_on ((displayOn_ppuStep m s).trans hon), ppuStep_on hon m, ppuStep_on hon (m + n), ← addAcc_add,
      ← ppuLoop_addAcc n ((s.ppu.acc + m) / 80) ((s.ppu.acc + (m + n)) / 80) (s.addAcc m) (le_refl _)
        (by rw [addAcc_ppu, ← Nat.add_assoc])]
    refine ppuLoop_fuel _ _ _ (le_refl _) ?_
    rw [addAcc_ppu, ← Nat.add_assoc]
    exact Nat.div_le_div_right (Nat.add_le_add_right hle n)

/-- A step leaves no threshold of its mode unprocessed. -/
theorem ppuStep_acc_lt (n : Nat) {s : State} (h : s.ppu.acc < s.ppu.mode.length) :
    (ppuStep n s).ppu.acc < (ppuStep n s).ppu.mode.length := by
  cases hon : displayOn s with
  | false => rwa [ppuStep_off hon]
  | true =>
    rw [ppuStep_on hon]
    exact ppuLoop_acc_lt _ _ (le_refl _)

/-- Settles O48: the loop commutes with cycles that come later, and its fuel covers the accumulator. -/
theorem ppuStepAdds : Obligations.PpuStepAdds := fun m n s h => ⟨ppuStep_ppuStep m n s, ppuStep_acc_lt n h⟩

/-! Each transition (R803 to R808, R812). -/

theorem setLY_eq (v : Byte) (s : State) :
    setLY v s = requestIf (decide (v = s.ppu.lyc) && s.ppu.statEnables.getLsbD 3) .lcdStat
      { s with ppu.ly := v, ppu.coincidence := decide (v = s.ppu.lyc) } := rfl

/-- SetLY changes no STAT enable and no parameter, which the transitions after it read. -/
theorem setLY_enables (v : Byte) (s : State) :
    (setLY v s).cfg = s.cfg ∧ (setLY v s).ppu.statEnables = s.ppu.statEnables :=
  ⟨(setLY_deviceOnly v s).cfg, by rw [setLY_ppu]⟩

theorem enterOAM_setLY (v : Byte) (s : State) :
    enterOAM (setLY v s) =
      requestIf (s.cfg.statExtraSources && s.ppu.statEnables.getLsbD 2) .lcdStat { setLY v s with ppu.mode := .oam } := by
  obtain ⟨hcfg, henables⟩ := setLY_enables v s
  rw [← hcfg, ← henables]
  rfl

theorem enterVBlank_setLY (v : Byte) (s : State) :
    enterVBlank (setLY v s) =
      requestIf (s.cfg.statExtraSources && s.ppu.statEnables.getLsbD 1) .lcdStat
        (request .vblank { setLY v s with ppu.mode := .vblank, ppu.frameReady := true }) := by
  obtain ⟨hcfg, henables⟩ := setLY_enables v s
  rw [← hcfg, ← henables]
  rfl

theorem ppuTransition_oam {s : State} (h : s.ppu.mode = .oam) : ppuTransition s = { s.offAcc with ppu.mode := .vram } := by
  rw [ppuTransition_eq, h]

theorem ppuTransition_vram {s : State} (h : s.ppu.mode = .vram) : ppuTransition s = enterHBlank s.offAcc := by
  rw [ppuTransition_eq, h]

theorem ppuTransition_hblank {s : State} (h : s.ppu.mode = .hblank) : ppuTransition s = endHBlankLine s.offAcc := by
  rw [ppuTransition_eq, h]

theorem ppuTransition_vblank {s : State} (h : s.ppu.mode = .vblank) : ppuTransition s = endVBlankLine s.offAcc := by
  rw [ppuTransition_eq, h]

/-- Settles O49, by the mode that ends. -/
theorem ppuModeTransitions : Obligations.PpuModeTransitions := by
  refine ⟨setLY_eq, fun s => ⟨ppuTransition_oam, ppuTransition_vram, fun hm => ?hblank, fun hm => ?vblank⟩⟩
  case hblank =>
    rw [ppuTransition_hblank hm]
    by_cases hlast : s.ppu.ly + 1 = 144
    · rw [if_pos hlast]
      exact (endHBlankLine_last s.offAcc hlast).trans (enterVBlank_setLY _ _)
    · rw [if_neg hlast]
      exact (endHBlankLine_inner s.offAcc hlast).trans (enterOAM_setLY _ _)
  case vblank =>
    rw [ppuTransition_vblank hm]
    by_cases hlast : s.ppu.ly = 153
    · rw [if_pos hlast]
      exact (endVBlankLine_last s.offAcc hlast).trans (enterOAM_setLY _ _)
    · rw [if_neg hlast]
      exact endVBlankLine_inner s.offAcc hlast

/-! Lines and frames (R801, R805, R809). -/

/-- The display is on, and the PPU is at the start of mode `m` on line `y`. -/
structure ModeStart (m : PpuMode) (y : Nat) (s : State) : Prop where
  on : displayOn s = true
  mode : s.ppu.mode = m
  acc : s.ppu.acc = 0
  ly : s.ppu.ly.toNat = y

/-- From its start, the length of a mode is its transition and nothing after it (R802). -/
theorem ModeStart.step_eq {m : PpuMode} {y : Nat} {s : State} (h : ModeStart m y s) :
    ppuStep m.length s = ppuTransition (s.addAcc m.length) ∧ (ppuStep m.length s).ppu.acc = 0 := by
  obtain ⟨hon, rfl, hacc, -⟩ := h
  have hlen := s.ppu.mode.length_ge
  have hend : (ppuTransition (s.addAcc s.ppu.mode.length)).ppu.acc = 0 := by
    rw [ppuTransition_acc, addAcc_ppu, hacc, Nat.zero_add, Nat.sub_self]
  have heq : ppuStep s.ppu.mode.length s = ppuTransition (s.addAcc s.ppu.mode.length) := by
    obtain ⟨f, hf⟩ : ∃ f, (s.ppu.acc + s.ppu.mode.length) / 80 = f + 1 := ⟨_, (Nat.sub_add_cancel (by omega)).symm⟩
    rw [ppuStep_on hon, hf, ppuLoop_due _ _ (by simp), ppuLoop_done]
    rw [hend]
    exact Nat.lt_of_lt_of_le (by decide) (PpuMode.length_ge _)
  exact ⟨heq, heq ▸ hend⟩

/-- The next mode starts where the transition says. -/
theorem ModeStart.next {m m' : PpuMode} {y y' : Nat} {s : State} {p : Ppu} (h : ModeStart m y s)
    (hp : (ppuTransition (s.addAcc m.length)).ppu = p) (hm : p.mode = m') (hy : p.ly.toNat = y') :
    ModeStart m' y' (ppuStep m.length s) := by
  obtain ⟨heq, hacc⟩ := h.step_eq
  exact ⟨(displayOn_ppuStep _ s).trans h.on, by rw [heq, hp, hm], hacc, by rw [heq, hp, hy]⟩

theorem byte_add_one_toNat {b : Byte} {y : Nat} (h : b.toNat = y) (hy : y < 255) : (b + 1).toNat = y + 1 := by
  rw [BitVec.toNat_add, h]
  exact Nat.mod_eq_of_lt (Nat.add_lt_add_right hy 1)

theorem byte_add_one_eq_iff {b : Byte} {y : Nat} (h : b.toNat = y) (hy : y < 255) (c : Byte) : b + 1 = c ↔ y + 1 = c.toNat := by
  rw [← byte_add_one_toNat h hy, BitVec.toNat_inj]

section
variable {y : Nat} {s : State}

theorem ModeStart.oam_next (h : ModeStart .oam y s) : ModeStart .vram y (ppuStep 80 s) :=
  h.next (congrArg State.ppu (ppuTransition_oam h.mode)) rfl h.ly

theorem ModeStart.vram_next (h : ModeStart .vram y s) : ModeStart .hblank y (ppuStep 172 s) :=
  h.next ((congrArg State.ppu (ppuTransition_vram (s := s.addAcc 172) h.mode)).trans (enterHBlank_ppu _)) rfl h.ly

/-- The PPU after the HBlank that ends line `y` (R805). -/
theorem hblankEnd_ppu (h : ModeStart .hblank y s) :
    (ppuTransition (s.addAcc 204)).ppu = (endHBlankLine (s.addAcc 204).offAcc).ppu :=
  congrArg State.ppu (ppuTransition_hblank h.mode)

theorem ModeStart.hblank_next (h : ModeStart .hblank y s) (hy : y < 143) : ModeStart .oam (y + 1) (ppuStep 204 s) := by
  have hinner : s.ppu.ly + 1 ≠ 144 := by
    rw [ne_eq, byte_add_one_eq_iff h.ly (by omega)]
    exact Nat.ne_of_lt (Nat.add_lt_add_right hy 1)
  exact h.next ((hblankEnd_ppu h).trans ((endHBlankLine_ppu _).trans (if_neg hinner))) rfl (byte_add_one_toNat h.ly (by omega))

/-- The last line's HBlank ends in VBlank, with the frame ready (R805, R806). -/
theorem ModeStart.hblank_last (h : ModeStart .hblank 143 s) :
    ModeStart .vblank 144 (ppuStep 204 s) ∧ (ppuStep 204 s).ppu.frameReady = true := by
  have hlast : s.ppu.ly + 1 = 144 := (byte_add_one_eq_iff h.ly (by decide) 144).2 rfl
  have hp := (hblankEnd_ppu h).trans ((endHBlankLine_ppu _).trans (if_pos hlast))
  refine ⟨h.next hp rfl (byte_add_one_toNat h.ly (by decide)), ?_⟩
  show (ppuStep PpuMode.hblank.length s).ppu.frameReady = true
  rw [h.step_eq.1]
  exact congrArg Ppu.frameReady hp

theorem vblankEnd_ppu (h : ModeStart .vblank y s) :
    (ppuTransition (s.addAcc 456)).ppu = (endVBlankLine (s.addAcc 456).offAcc).ppu :=
  congrArg State.ppu (ppuTransition_vblank h.mode)

theorem ModeStart.vblank_next (h : ModeStart .vblank y s) (hy : y < 153) : ModeStart .vblank (y + 1) (ppuStep 456 s) := by
  have hinner : s.ppu.ly ≠ 153 := fun e => absurd (h.ly.symm.trans (congrArg BitVec.toNat e)) (Nat.ne_of_lt hy)
  exact h.next ((vblankEnd_ppu h).trans ((endVBlankLine_ppu _).trans (if_neg hinner))) h.mode (byte_add_one_toNat h.ly (by omega))

/-- VBlank ends with its tenth line (R807). -/
theorem ModeStart.vblank_last (h : ModeStart .vblank 153 s) : ModeStart .oam 0 (ppuStep 456 s) := by
  have hlast : s.ppu.ly = 153 := BitVec.eq_of_toNat_eq h.ly
  exact h.next ((vblankEnd_ppu h).trans ((endVBlankLine_ppu _).trans (if_pos hlast))) rfl rfl

/-- A line with rendering is its three modes in turn (R801). -/
theorem ppuStep_line (s : State) : ppuStep 456 s = ppuStep 204 (ppuStep 172 (ppuStep 80 s)) := by
  rw [ppuStep_ppuStep, ppuStep_ppuStep]

theorem ModeStart.line_next (h : ModeStart .oam y s) (hy : y < 143) : ModeStart .oam (y + 1) (ppuStep 456 s) :=
  ppuStep_line s ▸ h.oam_next.vram_next.hblank_next hy

theorem ModeStart.line_last (h : ModeStart .oam 143 s) :
    ModeStart .vblank 144 (ppuStep 456 s) ∧ (ppuStep 456 s).ppu.frameReady = true :=
  ppuStep_line s ▸ h.oam_next.vram_next.hblank_last

theorem ppuStep_zero (h : s.ppu.acc < s.ppu.mode.length) : ppuStep 0 s = s := by
  cases hon : displayOn s with
  | false => exact ppuStep_off hon 0
  | true => exact (ppuStep_on hon 0).trans (ppuLoop_done _ s h)

theorem ModeStart.acc_lt {m : PpuMode} (h : ModeStart m y s) : s.ppu.acc < s.ppu.mode.length := by
  rw [h.acc]
  exact Nat.lt_of_lt_of_le (by decide) (PpuMode.length_ge _)

/-- `k` lines of 456 cycles, where each of them leads to the next. -/
theorem ModeStart.lines {m : PpuMode} {last : Nat}
    (hline : ∀ {y : Nat} {s : State}, ModeStart m y s → y < last → ModeStart m (y + 1) (ppuStep 456 s))
    (h : ModeStart m y s) (k : Nat) (hk : y + k ≤ last) : ModeStart m (y + k) (ppuStep (k * 456) s) := by
  induction k with
  | zero => rw [Nat.zero_mul, ppuStep_zero h.acc_lt]; exact h
  | succ k ih =>
    rw [Nat.add_one_mul, ← ppuStep_ppuStep, ← Nat.add_assoc]
    exact hline (ih (by omega)) (by omega)

/-- 144 lines from the top of the screen end in VBlank with the frame ready (R809). -/
theorem ModeStart.frame_vblank (h : ModeStart .oam 0 s) :
    ModeStart .vblank 144 (ppuStep 65664 s) ∧ (ppuStep 65664 s).ppu.frameReady = true := by
  have hlines : ModeStart .oam 143 (ppuStep (143 * 456) s) := by
    simpa using h.lines ModeStart.line_next 143 (by decide)
  have hlast := hlines.line_last
  rwa [ppuStep_ppuStep] at hlast

/-- Ten lines of VBlank lead back to the top of the screen (R809). -/
theorem ModeStart.frame_end (h : ModeStart .oam 0 s) : ModeStart .oam 0 (ppuStep 70224 s) := by
  have hlast := (h.frame_vblank.1.lines ModeStart.vblank_next 9 (by decide)).vblank_last
  rwa [ppuStep_ppuStep, ppuStep_ppuStep] at hlast

end

/-- Settles O50: a line is OAM, VRAM and HBlank in turn; a frame is 144 such lines and ten of VBlank. -/
theorem ppuLineOf456Cycles : Obligations.PpuLineOf456Cycles := by
  intro s hon hmode hacc
  refine ⟨fun hy => ?_, fun hy => ?_⟩
  · have hnext := (ModeStart.mk hon hmode hacc rfl).line_next hy
    exact ⟨hnext.mode, hnext.acc, BitVec.eq_of_toNat_eq (hnext.ly.trans (byte_add_one_toNat rfl (by omega)).symm)⟩
  · have htop : ModeStart .oam 0 s := ⟨hon, hmode, hacc, by rw [hy]; rfl⟩
    obtain ⟨hvblank, hready⟩ := htop.frame_vblank
    have hend := htop.frame_end
    exact ⟨hvblank.mode, BitVec.eq_of_toNat_eq hvblank.ly, hready, hend.mode, BitVec.eq_of_toNat_eq hend.ly, hend.acc⟩

/-! The display's on and off (R810, R811, R814). -/

theorem write8_lcdc (v : Byte) (s : State) : write8 0xFF40 v s = lcdcWrite v s := rfl

section
variable {v : Byte} {s : State}

theorem lcdcWrite_disable (hon : displayOn s = true) (hv : bitOf v 7 = false) :
    lcdcWrite v s = { setLY 0 { s with ppu.lcdc := v } with
      ppu := { (setLY 0 { s with ppu.lcdc := v }).ppu with mode := .hblank, acc := 0 } } := by
  rw [lcdcWrite, hon, hv]

theorem lcdcWrite_enable (hoff : displayOn s = false) (hv : bitOf v 7 = true) :
    lcdcWrite v s = setLY 0 { s with ppu.lcdc := v, ppu.mode := .oam, ppu.acc := 0 } := by
  rw [lcdcWrite, hoff, hv]

/-- A write that keeps bit 7 only stores the byte (R121). -/
theorem lcdcWrite_keep (h : displayOn s = bitOf v 7) : lcdcWrite v s = { s with ppu.lcdc := v } := by
  rw [lcdcWrite, h]
  cases bitOf v 7 <;> rfl

end

/-- Settles O51, by bit 7 before and after. -/
theorem displayEnableAndDisable : Obligations.DisplayEnableAndDisable := fun v n s =>
  ⟨fun hon hv => (write8_lcdc v s).trans (lcdcWrite_disable hon hv), fun hoff hv => (write8_lcdc v s).trans (lcdcWrite_enable hoff hv),
    fun h => (write8_lcdc v s).trans (lcdcWrite_keep h), fun hoff => ppuStep_off hoff n⟩

end Sys2Proof.Machine
end

section
/-! The reset procedure, the ROM load and the frame (63_scheduler_host.md R903 to R912, 70_reset_and_hazards.md R951 to R953). -/

namespace Sys2Proof.Machine

/-! The frame's end and the frame's loop (R903, R905). -/

theorem frameEnd_ready {s : State} (h : s.ppu.frameReady = true) :
    frameEnd s = { s with ppu.frameReady := false, sched.frameCycles := 0, sched.lastFrame := .delivered (deliveryOf s) } := if_pos h

theorem frameEnd_spent {s : State} (hready : s.ppu.frameReady = false) (hspent : frameBudget ≤ s.sched.frameCycles) :
    frameEnd s = { s with sched.frameCycles := 0, sched.lastFrame := .budgetExceeded } := by
  rw [frameEnd, hready, if_neg (by decide), if_pos hspent]

theorem frameEnd_open {s : State} (hready : s.ppu.frameReady = false) (hopen : s.sched.frameCycles < frameBudget) :
    frameEnd s = { s with sched.lastFrame := .inFrame } := by
  rw [frameEnd, hready, if_neg (by decide), if_neg (Nat.not_le_of_lt hopen)]

/-- Settles O56: the three cases of the end test, one lemma each. -/
theorem frameEndTest : Obligations.FrameEndTest := fun _ => ⟨frameEnd_ready, frameEnd_spent, frameEnd_open⟩

/-- The end test leaves a frame open with its count inside the budget, or ends it with the count cleared. -/
theorem frameEnd_sched (s : State) :
    ((frameEnd s).sched.lastFrame = .inFrame ∧ (frameEnd s).sched.frameCycles = s.sched.frameCycles ∧ s.sched.frameCycles < frameBudget) ∨
      ((frameEnd s).sched.lastFrame ≠ .inFrame ∧ (frameEnd s).sched.frameCycles = 0) := by
  cases hready : s.ppu.frameReady with
  | true => rw [frameEnd_ready hready]; exact .inr ⟨by simp, rfl⟩
  | false =>
    rcases Nat.lt_or_ge s.sched.frameCycles frameBudget with hopen | hspent
    · rw [frameEnd_open hready hopen]; exact .inl ⟨rfl, rfl, hopen⟩
    · rw [frameEnd_spent hready hspent]; exact .inr ⟨by simp, rfl⟩

theorem deviceStep_frameCycles (n : Nat) (s : State) : (deviceStep n s).sched.frameCycles = s.sched.frameCycles + n := by
  show (mmuStep n s).sched.frameCycles + n = _
  rw [(mmuStep_deviceOnly n s).sched]

theorem dispatch_sched (b : IntSource) {s : State} (hi : s.cpu.ime = true) : (dispatch b s).sched = s.sched := by
  rw [dispatch_taken b s hi]
  exact (write16_storeOnly _ _ _).sched

/-- The dispatch half of an iteration can only add to the frame's count. -/
theorem dispatchStep_frameCycles_le (s : State) : s.sched.frameCycles ≤ (dispatchStep s).sched.frameCycles := by
  unfold dispatchStep
  split
  · exact le_refl _
  · rename_i b hb
    rw [deviceStep_frameCycles, addCycles_sched, dispatch_sched b (ime_of_dispatchSource hb)]
    exact Nat.le_add_right _ _

/-- One pass of the frame loop counts at least the CPU step's cost, and then makes the end test (R904, R905). -/
theorem frameStep_next (s : State) :
    ∃ u, frameStep s = .next (frameEnd u) ∧ u.cfg = s.cfg ∧ s.sched.frameCycles + stepCost s ≤ u.sched.frameCycles := by
  obtain ⟨w, hw⟩ := cpuStep_total s
  obtain ⟨v, hv, rfl⟩ := cpuStep_next hw
  have hkeep := (hv.keepsHostOwned.trans (addCycles_keepsHostOwned (stepCost s) v)).trans
    ((deviceStep_keepsHostOwned (stepCost s) _).trans (dispatchStep_keepsHostOwned _))
  refine ⟨_, by rw [frameStep, iterate, hw], hkeep.cfg, ?_⟩
  obtain ⟨-, -, -, -, -, hsched, -⟩ := hv.keepsHostState
  have hle := dispatchStep_frameCycles_le (deviceStep (stepCost s) (addCycles (stepCost s) v))
  rwa [deviceStep_frameCycles, addCycles_sched, hsched] at hle

theorem frameLoop_open {s t : State} (h : frameStep s = .next t) (hin : t.sched.lastFrame = .inFrame) (n : Nat) :
    frameLoop (n + 1) s = frameLoop n t := by
  rw [frameLoop, h]
  simp only [hin]

theorem frameLoop_ended {s t : State} (h : frameStep s = .next t) (hend : t.sched.lastFrame ≠ .inFrame) (n : Nat) :
    frameLoop (n + 1) s = .next t := by
  rw [frameLoop, h]
  cases hlast : t.sched.lastFrame with
  | inFrame => exact absurd hlast hend
  | delivered call => simp only [hlast]
  | budgetExceeded => simp only [hlast]

/-- A loop whose fuel covers the rest of the budget ends its frame: every pass that leaves the frame open spends a cycle. -/
theorem frameLoop_ends (fuel : Nat) {s : State} (hv : s.cfg.valid = true) (hopen : s.sched.frameCycles < frameBudget)
    (hfuel : frameBudget ≤ s.sched.frameCycles + fuel) :
    ∃ t, frameLoop fuel s = .next t ∧ t.sched.lastFrame ≠ .inFrame ∧ t.sched.frameCycles = 0 := by
  induction fuel generalizing s with
  | zero => omega
  | succ n ih =>
    obtain ⟨u, hu, hcfg, hcycles⟩ := frameStep_next s
    have hcost := stepCost_pos hv
    rcases frameEnd_sched u with ⟨hin, hsame, hroom⟩ | ⟨hended, hzero⟩
    · have hcfg' : (frameEnd u).cfg = s.cfg := (frameEnd_keepsHostOwned u).cfg.trans hcfg
      rw [frameLoop_open hu hin]
      exact ih (hcfg' ▸ hv) (by omega) (by omega)
    · exact ⟨_, frameLoop_ended hu hended n, hended, hzero⟩

/-- Settles O57: the frame begins with its whole budget and as much fuel. -/
theorem frameEndsWithinBudget : Obligations.FrameEndsWithinBudget := fun _ hv =>
  have hbudget : 0 < frameBudget := by decide
  frameLoop_ends frameBudget hv hbudget (Nat.le_add_left _ _)

/-! The reset procedure (R951 to R953) and the run state (R909). -/

/-- A canonical array of no cells. -/
theorem Memory.array_nil (n : Nat) : Memory.array n [] := ⟨rfl, rfl⟩

theorem resetPpu_inv : PpuInv State.resetPpu where
  accBound := by decide
  lyBound := by decide
  vblankLines := by decide
  displayOff := by decide
  vram := Memory.array_nil _
  oam := Memory.array_nil _
  frameRows := List.length_replicate
  frameColumns := fun _ hrow => List.eq_of_mem_replicate hrow ▸ List.length_replicate
  bgIndexColumns := List.length_replicate
  objOwnedColumns := List.length_replicate

theorem resetCart_inv : CartInv State.resetCart := ⟨rfl, Memory.array_nil _, Memory.array_nil _⟩

theorem reset_midInv : MidInv State.reset where
  fLowNibble := by decide
  controllerIdle := rfl
  divCounter := by decide
  timerOff := fun _ => rfl
  ppu := resetPpu_inv
  cart := resetCart_inv
  sound := by decide
  wram := Memory.array_nil _
  hram := Memory.array_nil _
  noSamples := rfl
  cfg := rfl

/-- Settles O58, component by component of the invariant. -/
theorem resetMeetsTheInvariant : Obligations.ResetMeetsTheInvariant :=
  ⟨reset_midInv, fun hon => absurd hon (by decide), rfl, by decide⟩

theorem read8_io {a : Word} (h1 : 0xFF00 ≤ a.toNat) (h2 : a.toNat < 0xFF80) (s : State) : read8 s a = ioRead s (ioRegOf a.toNat) := by
  rw [read8, regionOf_ioBlock h1 h2]
  rfl

/-- The open-bus addresses of the I/O block read 0xFF in every state (R165). -/
theorem read8_unlisted {a : Word} (h : 0xFF01 ≤ a.toNat ∧ a.toNat ≤ 0xFF03 ∨ 0xFF08 ≤ a.toNat ∧ a.toNat ≤ 0xFF0E ∨
    0xFF27 ≤ a.toNat ∧ a.toNat ≤ 0xFF2F ∨ 0xFF4C ≤ a.toNat ∧ a.toNat ≤ 0xFF7F) (s : State) : read8 s a = 0xFF := by
  rw [read8_io (by omega) (by omega), ioRegOf_unlisted h]
  rfl

/-- The reset table's registers do not depend on the state before: they read as in the reset state (R951, R953). -/
theorem read8_resetProcedure_register {a : Word} (h : 0xFF00 ≤ a.toNat ∧ a.toNat < 0xFF80 ∨ a = 0xFFFF) (s : State) :
    read8 (resetProcedure s) a = read8 State.reset a := by
  rcases h with ⟨hlo, hhi⟩ | rfl
  · rw [read8_io hlo hhi, read8_io hlo hhi]
    cases ioRegOf a.toNat <;> rfl
  · rfl

/-- So do the reads of a list of them. -/
theorem map_read8_resetProcedure {as : List Word} (h : ∀ a ∈ as, 0xFF00 ≤ a.toNat ∧ a.toNat < 0xFF80 ∨ a = 0xFFFF) (s : State) :
    as.map (read8 (resetProcedure s)) = as.map (read8 State.reset) :=
  List.map_congr_left fun a ha => read8_resetProcedure_register (h a ha) s

/-- Wave RAM is not listed in the reset table's sound bytes. -/
theorem resetSound_waveRam {k : Nat} (h : 0xFF27 ≤ k) : State.resetSound.read k = 0 := by
  refine Memory.read_eq_zero _ k fun c hc => ?_
  have hkeys : ∀ c ∈ State.resetSound, c.1 < 0xFF27 := by decide
  exact Nat.ne_of_lt (Nat.lt_of_lt_of_le (hkeys c hc) h)

/-- The four RAMs read RAM_INIT after a reset (R951, R28). -/
theorem read8_resetProcedure_ram {a : Word} (h : 0x8000 ≤ a.toNat ∧ a.toNat < 0xA000 ∨ 0xC000 ≤ a.toNat ∧ a.toNat < 0xE000 ∨
    0xFE00 ≤ a.toNat ∧ a.toNat < 0xFEA0 ∨ 0xFF80 ≤ a.toNat ∧ a.toNat < 0xFFFF) (s : State) :
    read8 (resetProcedure s) a = s.cfg.ramInit.read a.toNat := by
  have hslice : ∀ base len, base ≤ a.toNat → a.toNat < base + len →
      (s.cfg.ramInit.slice base len).read (a.toNat - base) = s.cfg.ramInit.read a.toNat := fun base len hlo hhi => by
    rw [Memory.read_slice _ _ _ _ (by omega), Nat.add_sub_cancel' hlo]
  unfold read8
  rcases h with ⟨hlo, hhi⟩ | ⟨hlo, hhi⟩ | ⟨hlo, hhi⟩ | ⟨hlo, hhi⟩
  · rw [(regionOf_vram_iff _ _).2 ⟨hlo, hhi, rfl⟩]
    exact hslice 0x8000 0x2000 hlo hhi
  · rw [(regionOf_wram_iff _ (a.toNat - 0xC000)).2 ⟨hlo, by omega, by omega⟩]
    exact hslice 0xC000 0x2000 hlo hhi
  · rw [(regionOf_oam_iff _ _).2 ⟨hlo, hhi, rfl⟩]
    exact hslice 0xFE00 160 hlo hhi
  · rw [(regionOf_hram_iff _ _).2 ⟨hlo, hhi, rfl⟩]
    exact hslice 0xFF80 127 hlo hhi

/-- Settles O53: the registers by evaluation, the address ranges by their regions. -/
theorem resetTable : Obligations.ResetTable := by
  intro s
  refine ⟨rfl, ?control, ?display, ?sound, ?zeros, ?wave, fun a ha => read8_unlisted ha _, rfl, rfl, rfl, rfl, rfl, rfl, rfl, rfl,
    fun a ha => read8_resetProcedure_ram ha s, rfl, rfl, rfl, rfl, rfl, ?pause⟩
  case control => exact (map_read8_resetProcedure (by simp) s).trans rfl
  case display => exact (map_read8_resetProcedure (by simp) s).trans rfl
  case sound => exact (map_read8_resetProcedure (by simp) s).trans rfl
  case zeros =>
    intro a ha
    have hzeros : ([0xFF13, 0xFF15, 0xFF17, 0xFF18, 0xFF1D, 0xFF1F, 0xFF21, 0xFF22] : List Word).map (read8 (resetProcedure s)) =
        List.replicate 8 0 := (map_read8_resetProcedure (by simp) s).trans rfl
    exact List.eq_of_mem_replicate (hzeros ▸ List.mem_map_of_mem ha)
  case wave =>
    intro a h1 h2
    rw [read8_io (by omega) (by omega), ioRegOf_sound (.inr ⟨h1, h2⟩)]
    exact resetSound_waveRam (by omega)
  case pause =>
    unfold hostPause
    cases s.sched.runState <;> rfl

/-! The ROM load (R267, R912). -/

theorem Memory.mem_nibblesOf {m : Memory} {c : Host.Cell} (h : c ∈ nibblesOf m) : ∃ d ∈ m, d.1 = c.1 := by
  obtain ⟨d, hd, rfl⟩ := List.mem_map.1 (List.mem_filter.1 h).1
  exact ⟨d, hd, rfl⟩

theorem nibblesOf_cons (c : Host.Cell) (m : Memory) :
    nibblesOf (c :: m) = if c.2 &&& 0x0F = Memory.unlisted then nibblesOf m else (c.1, c.2 &&& 0x0F) :: nibblesOf m := by
  simp [nibblesOf, List.filter_cons]

/-- MBC2's array of nibbles reads as the low nibbles of a canonical memory (R266). -/
theorem Memory.read_nibblesOf {m : Memory} (h : m.wf = true) (k : Nat) : (nibblesOf m).read k = m.read k &&& 0x0F := by
  induction m with
  | nil => exact BitVec.zero_and.symm
  | cons c m ih =>
    obtain ⟨-, habove, hwf⟩ := (Memory.wf_cons c m).1 h
    rw [nibblesOf_cons, Memory.read_cons]
    by_cases hk : c.1 = k
    · subst hk
      split
      · rename_i hzero
        rw [if_pos rfl, hzero]
        refine Memory.read_eq_zero _ _ fun d hd => ?_
        obtain ⟨e, he, hed⟩ := Memory.mem_nibblesOf hd
        have := habove e he
        omega
      · rw [if_pos rfl, Memory.read_cons, if_pos rfl]
    · rw [if_neg hk, ← ih hwf]
      split
      · rfl
      · rw [Memory.read_cons, if_neg hk]

theorem cartRamAtLoad_of_ne {kind : MbcKind} (h : kind ≠ .mbc2) (m : Memory) (len : Nat) : cartRamAtLoad m kind len = m.slice 0 len := by
  cases kind with
  | mbc2 => exact absurd rfl h
  | none | mbc1 | mbc3 | mbc5 => rfl

/-- The cartridge RAM reads CART_RAM_INIT over its length, MBC2's its low nibbles (R28, R266, R267). -/
theorem read_cartRamAtLoad {m : Memory} (hm : m.wf = true) (kind : MbcKind) {len k : Nat} (hk : k < len) :
    (cartRamAtLoad m kind len).read k = if kind = .mbc2 then m.read k &&& 0x0F else m.read k := by
  have hslice := Memory.read_slice m 0 len k hk
  rw [Nat.zero_add] at hslice
  split
  · rename_i hkind
    subst hkind
    exact (Memory.read_nibblesOf (Memory.array_slice m 0 len hm).1 k).trans (by rw [hslice])
  · rename_i hkind
    rw [cartRamAtLoad_of_ne hkind, hslice]

theorem loadRom_short {image : List Byte} (h : image.length < 0x8000) (s : State) : loadRom image s = .error .tooSmall := if_pos h

theorem loadRom_unrecognized {image : List Byte} (h : 0x8000 ≤ image.length) (hk : kindOfType (image.getD 0x147 0) = none) (s : State) :
    loadRom image s = .error .unrecognizedType := by
  rw [loadRom, if_neg (Nat.not_lt_of_le h), hk]

/-- A load that passes the checks installs the cartridge, resets and stops (R912). -/
theorem loadRom_ok {image : List Byte} {kind : MbcKind} (h : 0x8000 ≤ image.length) (hk : kindOfType (image.getD 0x147 0) = some kind)
    (s : State) :
    loadRom image s = .ok (hostStop (resetProcedure { s with cart := cartOf s.cfg.cartRamInit image kind })) := by
  rw [loadRom, if_neg (Nat.not_lt_of_le h), hk]

theorem Config.valid_cartRamInit {cfg : Config} (h : cfg.valid = true) : cfg.cartRamInit.wf = true := by
  simp only [Config.valid, Bool.and_eq_true] at h
  exact h.2

/-- Settles O54: the checks in their order, and the fields of the installed cartridge. -/
theorem loadRomChecksFirst : Obligations.LoadRomChecksFirst := fun image s =>
  ⟨fun hshort => loadRom_short hshort s, fun hlen hkind => loadRom_unrecognized hlen hkind s, fun kind hv hlen hkind =>
    ⟨_, loadRom_ok hlen hkind s, rfl, rfl, fun k => Memory.read_ofBytes k image, rfl, rfl, rfl, rfl, rfl,
      fun _ hk => read_cartRamAtLoad (Config.valid_cartRamInit hv) kind hk, rfl, rfl⟩⟩

end Sys2Proof.Machine
end

section
/-! The scanline renderer (62_ppu.md R820 to R832): the model's column-by-column line is what the spec's loops draw. A line buffer is
seen as one pixel for every column, so that each loop body becomes the update of one column, and each loop a map over the columns. -/

namespace Sys2Proof.Machine

/-! The pixel operations of Render.lean and of the spec's loops agree (R823 to R825). -/

theorem planePixel_eq (lo hi : Byte) (i : Nat) :
    planePixel lo hi i = BitVec.ofBool (hi.getLsbD i) ++ BitVec.ofBool (lo.getLsbD i) := by
  unfold planePixel bitOf
  cases hi.getLsbD i <;> cases lo.getLsbD i <;> rfl

theorem shade_eq (pal : Byte) (ci : Shade) : shade pal ci = paletteShade pal ci := by
  apply BitVec.eq_of_toNat_eq
  simp [shade, paletteShade, Nat.shiftRight_eq_div_pow]

/-- The two forms of the signed tile address (R823). -/
theorem tileBase_eq (idx : Byte) (sel : Bool) :
    tileBase idx sel = if sel then 0x8000 + idx.toNat * 16 else (0x9000 + idx.toInt * 16).toNat := by
  have hlo := BitVec.le_toInt idx
  unfold tileBase
  split
  · rfl
  · omega

theorem tilePixel_eq (p : Ppu) (idx : Byte) (row col : Nat) : tilePixel p idx row col (lcdcBit p 4) = tileIndex p idx row col := by
  unfold tilePixel tileIndex
  rw [tileBase_eq, planePixel_eq]
  rfl

/-! A line buffer as its columns. -/

/-- One column of a line buffer. -/
structure Pixel where
  row : Shade
  index : Shade
  owned : Bool

/-- The line buffer of 160 columns. -/
def LineBuffer.ofPixels (f : Nat → Pixel) : LineBuffer where
  row := (List.range 160).map fun x => (f x).row
  index := (List.range 160).map fun x => (f x).index
  owned := (List.range 160).map fun x => (f x).owned

theorem ofPixels_congr {f g : Nat → Pixel} (h : ∀ x < 160, f x = g x) : LineBuffer.ofPixels f = .ofPixels g := by
  have hmap {α : Type} (k : Pixel → α) : (List.range 160).map (fun x => k (f x)) = (List.range 160).map fun x => k (g x) :=
    List.map_congr_left fun x hx => by rw [h x (List.mem_range.1 hx)]
  unfold LineBuffer.ofPixels
  rw [hmap Pixel.row, hmap Pixel.index, hmap Pixel.owned]

theorem map_range_set {α : Type} (f : Nat → α) (n x : Nat) (v : α) :
    ((List.range n).map f).set x v = (List.range n).map (Function.update f x v) := by
  apply List.ext_getElem (by simp)
  intro y h1 h2
  simp only [List.getElem_set, List.getElem_map, List.getElem_range, Function.update_apply, eq_comm]

theorem map_range_getD {α : Type} (f : Nat → α) {n x : Nat} (h : x < n) (d : α) : ((List.range n).map f).getD x d = f x := by
  rw [List.getD_eq_getElem?_getD, List.getElem?_map, List.getElem?_range h]
  rfl

/-- A column written is its three entries written. -/
theorem ofPixels_update (f : Nat → Pixel) (x : Nat) (q : Pixel) :
    LineBuffer.ofPixels (Function.update f x q) =
      { row := (LineBuffer.ofPixels f).row.set x q.row
        index := (LineBuffer.ofPixels f).index.set x q.index
        owned := (LineBuffer.ofPixels f).owned.set x q.owned } := by
  simp only [LineBuffer.ofPixels, map_range_set, Function.apply_update fun _ : Nat => Pixel.row,
    Function.apply_update fun _ : Nat => Pixel.index, Function.apply_update fun _ : Nat => Pixel.owned]

/-- Writing back an entry of the column changes nothing. -/
theorem ofPixels_set_self (f : Nat → Pixel) (x : Nat) :
    (LineBuffer.ofPixels f).row.set x (f x).row = (LineBuffer.ofPixels f).row ∧
      (LineBuffer.ofPixels f).index.set x (f x).index = (LineBuffer.ofPixels f).index ∧
      (LineBuffer.ofPixels f).owned.set x (f x).owned = (LineBuffer.ofPixels f).owned := by
  simp only [LineBuffer.ofPixels, map_range_set]
  exact ⟨congrArg (List.map · _) (Function.update_eq_self x _), congrArg (List.map · _) (Function.update_eq_self x _),
    congrArg (List.map · _) (Function.update_eq_self x _)⟩

/-- A list of 160 entries as its columns. -/
theorem eq_map_range_getD {α : Type} {l : List α} {n : Nat} (h : l.length = n) (d : α) : (List.range n).map (fun x => l.getD x d) = l := by
  subst h
  apply List.ext_getElem (by simp)
  intro x h1 h2
  simp [List.getD_eq_getElem?_getD, List.getElem?_eq_getElem h2]

/-- A loop that writes each column it visits once, from what the column held. -/
theorem foldl_ofPixels {body : LineBuffer → Nat → LineBuffer} {g : Nat → Pixel → Pixel}
    (hbody : ∀ f x, body (.ofPixels f) x = .ofPixels (Function.update f x (g x (f x)))) {xs : List Nat} (hxs : xs.Nodup) (f : Nat → Pixel) :
    xs.foldl body (.ofPixels f) = .ofPixels fun x => if x ∈ xs then g x (f x) else f x := by
  induction xs generalizing f with
  | nil => simp
  | cons x xs ih =>
    obtain ⟨hx, hxs⟩ := List.nodup_cons.1 hxs
    rw [List.foldl_cons, hbody, ih hxs]
    congr 1
    funext y
    by_cases hy : y = x
    · subst hy
      simp [hx]
    · simp [hy]

/-! Background and window (R820 to R822, R827). -/

/-- A background or window pixel in its column. -/
def Pixel.paintBackground (p : Ppu) (ci : Shade) (q : Pixel) : Pixel := { q with index := ci, row := paletteShade p.bgp ci }

theorem putBackground_ofPixels (p : Ppu) (x : Nat) (ci : Shade) (f : Nat → Pixel) :
    putBackground p x ci (.ofPixels f) = .ofPixels (Function.update f x ((f x).paintBackground p ci)) := by
  rw [ofPixels_update, putBackground, Pixel.paintBackground, (ofPixels_set_self f x).2.2]

theorem drawBackground_ofPixels (p : Ppu) (ly : Nat) (f : Nat → Pixel) (x : Nat) :
    drawBackground p ly (.ofPixels f) x = .ofPixels (Function.update f x ((f x).paintBackground p (backgroundPixel p ly x))) := by
  rw [← putBackground_ofPixels, backgroundPixel, mapPixel, tilePixel_eq]
  rfl

theorem drawWindowAt_ofPixels (p : Ppu) (ly : Nat) (f : Nat → Pixel) (x : Nat) :
    drawWindowAt p ly (.ofPixels f) x = .ofPixels (Function.update f x ((f x).paintBackground p (windowPixel p ly x))) := by
  have hx : ((x : Int) - ((p.wx.toNat : Int) - 7)).toNat = x + 7 - p.wx.toNat := by omega
  rw [← putBackground_ofPixels, windowPixel, mapPixel, tilePixel_eq, ← hx]
  rfl

/-- The background and window at column `x` (R820, R821). -/
def Pixel.background (p : Ppu) (ly x : Nat) (q : Pixel) : Pixel := { q with index := bgIndexAt p ly x, row := bgShadeAt p ly x }

theorem background_eq_paint {p : Ppu} (h : lcdcBit p 0 = true) (ly x : Nat) (q : Pixel) :
    q.background p ly x = q.paintBackground p (if windowCovers p ly x then windowPixel p ly x else backgroundPixel p ly x) := by
  rw [Pixel.background, Pixel.paintBackground, bgShadeAt, if_pos h, bgIndexAt, if_pos h, shade_eq]

/-- The part of `drawLine` before the sprites. -/
def drawBackdrop (p : Ppu) (ly : Nat) (b : LineBuffer) : LineBuffer :=
  if lcdcBit p 0 then
    let b1 := (List.range 160).foldl (drawBackground p ly) b
    if lcdcBit p 5 then drawWindow p ly b1 else b1
  else (List.range 160).foldl (fun b x => { b with index := b.index.set x 0, row := b.row.set x 0 }) b

theorem drawLine_eq (p : Ppu) (ly : Nat) (b : LineBuffer) :
    drawLine p ly b = if lcdcBit p 1 then drawSprites p ly (drawBackdrop p ly b) else drawBackdrop p ly b := rfl

/-- Without LCDC bit 0 the loop clears every column (R821). -/
theorem drawBackdrop_blank {p : Ppu} (h : lcdcBit p 0 = false) (ly : Nat) (f : Nat → Pixel) :
    drawBackdrop p ly (.ofPixels f) = .ofPixels fun x => (f x).background p ly x := by
  rw [drawBackdrop, if_neg (Bool.eq_false_iff.1 h),
    foldl_ofPixels (g := fun _ q => { q with index := 0, row := 0 }) (fun f x => ?body) List.nodup_range]
  case body => rw [ofPixels_update, (ofPixels_set_self f x).2.2]
  refine ofPixels_congr fun x hx => ?_
  rw [if_pos (List.mem_range.2 hx), Pixel.background, bgIndexAt, bgShadeAt, h]
  rfl

/-- The columns the window's loop visits are the ones the window covers (R827). -/
theorem drawWindow_ofPixels {p : Ppu} (h : lcdcBit p 5 = true) (ly : Nat) (f : Nat → Pixel) :
    drawWindow p ly (.ofPixels f) =
      .ofPixels fun x => if windowCovers p ly x then (f x).paintBackground p (windowPixel p ly x) else f x := by
  have hcovers : ∀ x, windowCovers p ly x = true ↔ p.wy.toNat ≤ ly ∧ p.wx.toNat ≤ x + 7 := fun x => by
    simp [windowCovers, h]
  unfold drawWindow
  dsimp only
  split
  · rename_i hnone
    refine ofPixels_congr fun x hx => ?_
    rw [if_neg]
    rw [hcovers]
    omega
  · rename_i hsome
    rw [foldl_ofPixels (drawWindowAt_ofPixels p ly) (List.nodup_range.filter _)]
    refine ofPixels_congr fun x hx => ?_
    simp only [List.mem_filter, List.mem_range, decide_eq_true_eq, hcovers]
    congr 1
    simp only [eq_iff_iff]
    omega

theorem drawBackground_loop (p : Ppu) (ly : Nat) (f : Nat → Pixel) :
    (List.range 160).foldl (drawBackground p ly) (.ofPixels f) =
      .ofPixels fun x => (f x).paintBackground p (backgroundPixel p ly x) := by
  rw [foldl_ofPixels (drawBackground_ofPixels p ly) List.nodup_range]
  exact ofPixels_congr fun x hx => if_pos (List.mem_range.2 hx)

/-- Background and window drawn in turn give the one pixel of `bgIndexAt` (R820). -/
theorem drawBackdrop_ofPixels (p : Ppu) (ly : Nat) (f : Nat → Pixel) :
    drawBackdrop p ly (.ofPixels f) = .ofPixels fun x => (f x).background p ly x := by
  cases hbg : lcdcBit p 0 with
  | false => exact drawBackdrop_blank hbg ly f
  | true =>
    rw [drawBackdrop, if_pos hbg]
    dsimp only
    rw [drawBackground_loop]
    simp only [background_eq_paint hbg]
    cases hwin : lcdcBit p 5 with
    | false =>
      rw [if_neg Bool.false_ne_true]
      refine ofPixels_congr fun x hx => ?_
      rw [windowCovers, hwin]
      rfl
    | true =>
      rw [if_pos rfl, drawWindow_ofPixels hwin]
      refine ofPixels_congr fun x hx => ?_
      split <;> rfl

/-! Sprites (R828 to R831). -/

/-- OAM entry `i` painted over column `x` (R830): not where a sprite owns the column or the entry's pixel is transparent. -/
def Pixel.paintSprite (p : Ppu) (ly i x : Nat) (q : Pixel) : Pixel :=
  if q.owned then q
  else if spriteIndexAt p ly i x = 0 then q
  else if bitOf (oamAt p (4 * i + 3)) 7 = true ∧ q.index ≠ 0 then { q with owned := true }
  else { q with owned := true, row := shade (if bitOf (oamAt p (4 * i + 3)) 4 then p.obp1 else p.obp0) (spriteIndexAt p ly i x) }

/-- The colour index that the inner loop of R830 computes for pixel `c` of entry `i`. -/
def loopIndex (p : Ppu) (ly i c : Nat) : Shade :=
  let h := if p.lcdc.getLsbD 2 then 16 else 8
  let row0 : Nat := ((ly : Int) - ((p.oam.read (4 * i)).toNat - 16)).toNat
  let row := if (p.oam.read (4 * i + 3)).getLsbD 6 then h - 1 - row0 else row0
  let tile := if h = 16 then p.oam.read (4 * i + 2) &&& 0xFE else p.oam.read (4 * i + 2)
  let base := 0x8000 + tile.toNat * 16 + row * 2
  let bit := if (p.oam.read (4 * i + 3)).getLsbD 5 then c else 7 - c
  BitVec.ofBool ((p.vram.read (base + 1 - 0x8000)).getLsbD bit) ++ BitVec.ofBool ((p.vram.read (base - 0x8000)).getLsbD bit)

/-- The body of the inner loop by the column it falls on, which is off the screen to the left where it is negative. -/
theorem drawSpritePixel_eq (p : Ppu) (ly i c : Nat) (b : LineBuffer) :
    drawSpritePixel p ly i b c =
      let x : Int := (oamAt p (4 * i + 1)).toNat - 8 + c
      if x < 0 ∨ x > 159 then b
      else if b.owned.getD x.toNat false then b
      else if loopIndex p ly i c = 0 then b
      else if bitOf (oamAt p (4 * i + 3)) 7 = true ∧ b.index.getD x.toNat 0 ≠ 0 then { b with owned := b.owned.set x.toNat true }
      else { b with
        owned := b.owned.set x.toNat true
        row := b.row.set x.toNat (paletteShade (if bitOf (oamAt p (4 * i + 3)) 4 then p.obp1 else p.obp0) (loopIndex p ly i c)) } := rfl

theorem drawSpritePixel_left (p : Ppu) (ly i c : Nat) (b : LineBuffer) (h : (oamAt p (4 * i + 1)).toNat + c < 8) :
    drawSpritePixel p ly i b c = b := by
  rw [drawSpritePixel_eq]
  exact if_pos (.inl (by omega))

theorem loopIndex_eq (p : Ppu) (ly i : Nat) {c x : Nat} (hc : c < 8) (hx : x + 8 = (oamAt p (4 * i + 1)).toNat + c) :
    loopIndex p ly i c = spriteIndexAt p ly i x := by
  have hcol : x + 8 - (oamAt p (4 * i + 1)).toNat = c := by omega
  have hrow : ((ly : Int) - (((p.oam.read (4 * i)).toNat : Int) - 16)).toNat = ly + 16 - (oamAt p (4 * i)).toNat := by
    unfold oamAt
    omega
  unfold spriteIndexAt
  dsimp only
  rw [if_pos ⟨by omega, by omega⟩, planePixel_eq, hcol, ← hrow]
  rfl

/-- Pixel `c` of entry `i` paints the column it falls on; past the right edge that is no column of the buffer. -/
theorem drawSpritePixel_ofPixels (p : Ppu) (ly i : Nat) (f : Nat → Pixel) {c x : Nat} (hc : c < 8)
    (hx : x + 8 = (oamAt p (4 * i + 1)).toNat + c) :
    drawSpritePixel p ly i (.ofPixels f) c = .ofPixels (Function.update f x ((f x).paintSprite p ly i x)) := by
  have hcol : ((oamAt p (4 * i + 1)).toNat : Int) - 8 + c = x := by omega
  rw [drawSpritePixel_eq, hcol, loopIndex_eq p ly i hc hx]
  dsimp only
  rcases Nat.lt_or_ge x 160 with hin | hout
  · obtain ⟨hrow, hindex, howned⟩ := ofPixels_set_self f x
    have hgetOwned : (LineBuffer.ofPixels f).owned.getD x false = (f x).owned := map_range_getD (fun x => (f x).owned) hin false
    have hgetIndex : (LineBuffer.ofPixels f).index.getD x 0 = (f x).index := map_range_getD (fun x => (f x).index) hin 0
    rw [if_neg (by omega), Int.toNat_natCast, hgetOwned, hgetIndex, ofPixels_update, Pixel.paintSprite, ← shade_eq]
    split_ifs <;> simp only [hrow, hindex, howned]
  · rw [if_pos (.inr (by omega))]
    exact ofPixels_congr fun y hy => (Function.update_of_ne (by omega) _ _).symm

/-- The inner loop's first `n` pixels. -/
theorem drawSprite_firstPixels (p : Ppu) (ly i : Nat) (f : Nat → Pixel) (n : Nat) (hn : n ≤ 8) :
    (List.range n).foldl (drawSpritePixel p ly i) (.ofPixels f) =
      .ofPixels fun x => if (oamAt p (4 * i + 1)).toNat ≤ x + 8 ∧ x + 8 < (oamAt p (4 * i + 1)).toNat + n then
        (f x).paintSprite p ly i x else f x := by
  induction n with
  | zero =>
    refine ofPixels_congr fun x _ => (if_neg ?_).symm
    omega
  | succ n ih =>
    rw [List.range_succ, List.foldl_append, ih (by omega), List.foldl_cons, List.foldl_nil]
    rcases Nat.lt_or_ge ((oamAt p (4 * i + 1)).toNat + n) 8 with hleft | hright
    · rw [drawSpritePixel_left _ _ _ _ _ hleft]
      refine ofPixels_congr fun x _ => ?_
      congr 1
      simp only [eq_iff_iff]
      omega
    · obtain ⟨x, hx⟩ := Nat.exists_eq_add_of_le' hright
      rw [drawSpritePixel_ofPixels p ly i _ hn hx.symm]
      congr 1
      funext y
      by_cases hy : y = x
      · subst hy
        rw [Function.update_self, if_neg (by omega), if_pos (by omega)]
      · rw [Function.update_of_ne hy]
        congr 1
        simp only [eq_iff_iff]
        omega

theorem spriteIndexAt_outside (p : Ppu) (ly i x : Nat)
    (h : ¬ ((oamAt p (4 * i + 1)).toNat ≤ x + 8 ∧ x < (oamAt p (4 * i + 1)).toNat)) : spriteIndexAt p ly i x = 0 := if_neg h

theorem paintSprite_transparent {p : Ppu} {ly i x : Nat} (h : spriteIndexAt p ly i x = 0) (q : Pixel) : q.paintSprite p ly i x = q := by
  rw [Pixel.paintSprite, if_pos h, ite_self]

/-- One sprite drawn is one sprite painted over every column. -/
theorem drawSprite_ofPixels (p : Ppu) (ly i : Nat) (f : Nat → Pixel) :
    (List.range 8).foldl (drawSpritePixel p ly i) (.ofPixels f) = .ofPixels fun x => (f x).paintSprite p ly i x := by
  rw [drawSprite_firstPixels p ly i f 8 (le_refl _)]
  refine ofPixels_congr fun x _ => ?_
  split
  · rfl
  · rename_i hout
    rw [paintSprite_transparent (spriteIndexAt_outside p ly i x (by omega))]

theorem drawSprites_loop (p : Ppu) (ly : Nat) (is : List Nat) (f : Nat → Pixel) :
    is.foldl (fun b i => (List.range 8).foldl (drawSpritePixel p ly i) b) (.ofPixels f) =
      .ofPixels fun x => is.foldl (fun q i => q.paintSprite p ly i x) (f x) := by
  induction is generalizing f with
  | nil => rfl
  | cons i is ih => rw [List.foldl_cons, drawSprite_ofPixels, ih]; rfl

theorem paintSprites_owned (p : Ppu) (ly x : Nat) (is : List Nat) {q : Pixel} (h : q.owned = true) :
    is.foldl (fun q i => q.paintSprite p ly i x) q = q := by
  induction is with
  | nil => rfl
  | cons i is ih => rw [List.foldl_cons, Pixel.paintSprite, if_pos h, ih]

/-- Painting in order is painting the first opaque sprite (R831). -/
theorem paintSprites_find (p : Ppu) (ly x : Nat) (is : List Nat) {q : Pixel} (h : q.owned = false) :
    is.foldl (fun q i => q.paintSprite p ly i x) q =
      match is.find? fun i => spriteIndexAt p ly i x != 0 with
      | none => q
      | some i => q.paintSprite p ly i x := by
  induction is with
  | nil => rfl
  | cons i is ih =>
    rw [List.foldl_cons, List.find?_cons]
    by_cases hi : spriteIndexAt p ly i x = 0
    · rw [paintSprite_transparent hi, ih, hi]
      rfl
    · have hopaque : (spriteIndexAt p ly i x != 0) = true := bne_iff_ne.2 hi
      rw [hopaque]
      refine paintSprites_owned p ly x is ?_
      rw [Pixel.paintSprite, h, if_neg Bool.false_ne_true, if_neg hi]
      split <;> rfl

/-- The owner of a column has an opaque pixel there (R831). -/
theorem spriteOwner_opaque {p : Ppu} {ly x i : Nat} (h : spriteOwner p ly x = some i) : spriteIndexAt p ly i x ≠ 0 := by
  unfold spriteOwner at h
  simpa using List.find?_some h

/-- The selected sprites painted over the background give the shade and the mark of R830 and R831. -/
theorem paintSprites_background (p : Ppu) (ly x : Nat) :
    (selectedSprites p ly).foldl (fun (q : Pixel) i => q.paintSprite p ly i x) ⟨bgShadeAt p ly x, bgIndexAt p ly x, false⟩ =
      ⟨spriteShadeAt p ly x, bgIndexAt p ly x, (spriteOwner p ly x).isSome⟩ := by
  rw [paintSprites_find p ly x _ rfl]
  show (match spriteOwner p ly x with | none => _ | some i => _) = _
  unfold spriteShadeAt
  cases howner : spriteOwner p ly x with
  | none => rfl
  | some i =>
    dsimp only
    rw [Pixel.paintSprite, if_neg Bool.false_ne_true, if_neg (spriteOwner_opaque howner)]
    simp only [Bool.and_eq_true, bne_iff_ne]
    split <;> rfl

/-! The selection (R829). -/

/-- The scan's bounds over the integers are the model's over the naturals. -/
theorem spriteCovers_iff (p : Ppu) (ly i : Nat) :
    spriteCovers p ly i = true ↔
      (p.oam.read (4 * i)).toNat ≤ ly + 16 ∧ ly + 16 < (p.oam.read (4 * i)).toNat + (if p.lcdc.getLsbD 2 then 16 else 8) := by
  simp only [spriteCovers, Bool.and_eq_true, decide_eq_true_eq]
  rfl

/-- The scan with room for `room` entries takes that many of those that cover the line. -/
theorem scanOam_eq (p : Ppu) (ly : Nat) (is : List Nat) (room : Nat) :
    scanOam p ly is room = (is.filter fun i => spriteCovers p ly i).take room := by
  induction is generalizing room with
  | nil => simp [scanOam]
  | cons i is ih =>
    rw [scanOam, List.filter_cons]
    cases room with
    | zero => simp
    | succ n =>
      rw [if_neg (Nat.succ_ne_zero n), ih, ih]
      by_cases hc : spriteCovers p ly i = true
      · rw [if_pos hc, if_pos]
        · rfl
        · have := (spriteCovers_iff p ly i).1 hc
          split_ifs at this ⊢ <;> omega
      · rw [if_neg hc, if_neg]
        intro h
        refine hc ((spriteCovers_iff p ly i).2 ?_)
        split_ifs at h ⊢ <;> omega

theorem selectedSprites_eq_scan (p : Ppu) (ly : Nat) : selectedSprites p ly = scanOam p ly (List.range 40) 10 :=
  (scanOam_eq p ly _ _).symm

theorem mem_selectedSprites {p : Ppu} {ly i : Nat} (h : i ∈ selectedSprites p ly) : i < 40 ∧ spriteCovers p ly i = true := by
  obtain ⟨hi, hc⟩ := List.mem_filter.1 (List.mem_of_mem_take h)
  exact ⟨List.mem_range.1 hi, hc⟩

theorem selectedSprites_length_le (p : Ppu) (ly : Nat) : (selectedSprites p ly).length ≤ 10 := List.length_take_le _ _

theorem selectedSprites_sorted (p : Ppu) (ly : Nat) : (selectedSprites p ly).Pairwise (· < ·) :=
  (List.pairwise_lt_range.filter _).sublist (List.take_sublist _ _)

/-! The whole line (R820). -/

theorem drawSprites_ofPixels (p : Ppu) (ly : Nat) (f : Nat → Pixel) :
    drawSprites p ly (.ofPixels fun x => (f x).background p ly x) =
      .ofPixels fun x => ⟨spriteShadeAt p ly x, bgIndexAt p ly x, (spriteOwner p ly x).isSome⟩ := by
  have hclear : { LineBuffer.ofPixels (fun x => (f x).background p ly x) with owned := List.replicate 160 false } =
      LineBuffer.ofPixels fun x => ⟨bgShadeAt p ly x, bgIndexAt p ly x, false⟩ := by
    rw [← List.length_range (n := 160), ← List.map_const']
    rfl
  rw [drawSprites, hclear, drawSprites_loop, ← selectedSprites_eq_scan]
  exact ofPixels_congr fun x _ => paintSprites_background p ly x

/-- What the loops leave in a line buffer of its shape (R820). -/
theorem drawLine_ofPixels (p : Ppu) (ly : Nat) (f : Nat → Pixel) :
    drawLine p ly (.ofPixels f) =
      .ofPixels fun x => ⟨pixelAt p ly x, bgIndexAt p ly x, if lcdcBit p 1 then (spriteOwner p ly x).isSome else (f x).owned⟩ := by
  rw [drawLine_eq, drawBackdrop_ofPixels]
  unfold pixelAt
  cases lcdcBit p 1 with
  | false => rfl
  | true => exact drawSprites_ofPixels p ly f

/-- A line buffer of its shape as columns. -/
theorem eq_ofPixels {b : LineBuffer} (hrow : b.row.length = 160) (hindex : b.index.length = 160) (howned : b.owned.length = 160) :
    b = .ofPixels fun x => ⟨b.row.getD x 0, b.index.getD x 0, b.owned.getD x false⟩ := by
  unfold LineBuffer.ofPixels
  rw [eq_map_range_getD hrow, eq_map_range_getD hindex, eq_map_range_getD howned]

/-- The model's line, column by column, is the one the loops draw. -/
theorem renderLine_eq_drawLine {ly : Nat} {p : Ppu} (hrow : (p.frame.getD ly []).length = 160) (hindex : p.bgIndex.length = 160)
    (howned : p.objOwned.length = 160) :
    renderLine ly p =
      let b := drawLine p ly { row := p.frame.getD ly [], index := p.bgIndex, owned := p.objOwned }
      { p with frame := p.frame.set ly b.row, bgIndex := b.index, objOwned := b.owned } := by
  have hb := eq_ofPixels (b := { row := p.frame.getD ly [], index := p.bgIndex, owned := p.objOwned }) hrow hindex howned
  rw [hb, drawLine_ofPixels, renderLine, LineBuffer.ofPixels]
  dsimp only
  cases lcdcBit p 1 with
  | false => simp only [Bool.false_eq_true, if_false, eq_map_range_getD howned]
  | true => rfl

/-! The row itself, and a line without sprites and window (R821, R822). -/

theorem renderLine_frame_other {ly k : Nat} (h : k ≠ ly) (p : Ppu) : (renderLine ly p).frame[k]? = p.frame[k]? :=
  List.getElem?_set_ne h.symm

theorem renderLine_frame_row {ly : Nat} {p : Ppu} (h : ly < p.frame.length) :
    (renderLine ly p).frame[ly]? = some ((List.range 160).map fun x => pixelAt p ly x) :=
  List.getElem?_set_self h

theorem row_getElem? (p : Ppu) (ly : Nat) {x : Nat} (h : x < 160) :
    ((List.range 160).map fun x => pixelAt p ly x)[x]? = some (pixelAt p ly x) := by
  rw [List.getElem?_map, List.getElem?_range h]
  rfl

theorem pixelAt_noSprites {p : Ppu} (h : lcdcBit p 1 = false) (ly x : Nat) : pixelAt p ly x = bgShadeAt p ly x :=
  if_neg (Bool.eq_false_iff.1 h)

theorem bgShadeAt_blank {p : Ppu} (h : lcdcBit p 0 = false) (ly x : Nat) : bgShadeAt p ly x = 0 := if_neg (Bool.eq_false_iff.1 h)

theorem bgShadeAt_noWindow {p : Ppu} (hbg : lcdcBit p 0 = true) (hwin : lcdcBit p 5 = false) (ly x : Nat) :
    bgShadeAt p ly x = paletteShade p.bgp (backgroundPixel p ly x) := by
  have hcovers : windowCovers p ly x = false := by rw [windowCovers, hwin]; rfl
  rw [bgShadeAt, if_pos hbg, bgIndexAt, if_pos hbg, hcovers, if_neg Bool.false_ne_true, shade_eq]

/-- A colour index as the number of its two bits (R824). -/
theorem planePixel_toNat (lo hi : Byte) (i : Nat) : (planePixel lo hi i).toNat = 2 * (hi.getLsbD i).toNat + (lo.getLsbD i).toNat := by
  unfold planePixel bitOf
  cases hi.getLsbD i <;> cases lo.getLsbD i <;> rfl

theorem paletteShade_eq (pal : Byte) (ci : Shade) : paletteShade pal ci = BitVec.ofNat 2 (pal.toNat / 4 ^ ci.toNat % 4) := by
  rw [paletteShade, Nat.pow_mul]

/-- A pixel of an unsigned tile by VRAM offsets (R823, R824). -/
theorem tilePixel_unsigned (p : Ppu) (idx : Byte) (row col : Nat) :
    tilePixel p idx row col true =
      planePixel (p.vram.read (idx.toNat * 16 + 2 * row)) (p.vram.read (idx.toNat * 16 + 2 * row + 1)) (7 - col) := by
  unfold tilePixel tileBase vramAt
  rw [if_pos rfl]
  dsimp only
  rw [show 0x8000 + idx.toNat * 16 + 2 * row - 0x8000 = idx.toNat * 16 + 2 * row by omega,
    show 0x8000 + idx.toNat * 16 + 2 * row + 1 - 0x8000 = idx.toNat * 16 + 2 * row + 1 by omega]

/-- A map entry by its VRAM offset (R822). -/
theorem vramAt_mapBase (p : Ppu) (sel : Bool) (k j : Nat) :
    vramAt p (mapBase sel + k + j) = p.vram.read ((if sel then 0x1C00 else 0x1800) + k + j) := by
  have hoff : mapBase sel + k + j - 0x8000 = (if sel then 0x1C00 else 0x1800) + k + j := by
    unfold mapBase
    split <;> omega
  rw [vramAt, hoff]

/-- Settles O52: the row and the selection by their definitions, the loops column by column. -/
theorem renderedLine : Obligations.RenderedLine := by
  refine ⟨fun ly p k hk => renderLine_frame_other hk p, fun ly p hly =>
      ⟨_, renderLine_frame_row hly, (List.length_map _).trans List.length_range, ?blank, ?background⟩,
    fun ly p => ⟨selectedSprites_length_le p ly, selectedSprites_sorted p ly, fun i hi => ?selected⟩,
    fun ly p => selectedSprites_eq_scan p ly,
    fun ly p hly hframe hrows hindex howned => ?loops⟩
  case blank =>
    intro h0 h1 x hx
    rw [row_getElem? p ly hx, pixelAt_noSprites h1, bgShadeAt_blank h0]
  case background =>
    intro h0 h1 h5 h4 x hx
    rw [row_getElem? p ly hx, pixelAt_noSprites h1, bgShadeAt_noWindow h0 h5, backgroundPixel, mapPixel, vramAt_mapBase,
      show lcdcBit p 4 = true from h4, tilePixel_unsigned, paletteShade_eq, planePixel_toNat]
    rfl
  case selected =>
    obtain ⟨hlt, hcovers⟩ := mem_selectedSprites hi
    exact ⟨hlt, (spriteCovers_iff p ly i).1 hcovers⟩
  case loops =>
    have hmem : p.frame.getD ly [] ∈ p.frame := by
      rw [List.getD_eq_getElem _ _ (hframe ▸ hly)]
      exact List.getElem_mem _
    exact renderLine_eq_drawLine (hrows _ hmem) hindex howned

end Sys2Proof.Machine
end

section
/-! The save-state record (63_scheduler_host.md R915 to R918): its numbers, its layout as a list of fields, what a record gives back, and
which records a load accepts. -/

namespace Sys2Proof.Machine

/-! Numbers in the record's byte order (R30). -/

theorem leBytes_succ (n len : Nat) : leBytes n (len + 1) = BitVec.ofNat 8 n :: leBytes (n / 256) len := by
  unfold leBytes
  rw [List.range_succ_eq_map, List.map_cons, List.map_map, Nat.pow_zero, Nat.div_one]
  refine congrArg _ (List.map_congr_left fun i _ => ?_)
  rw [Function.comp_apply, Nat.pow_succ', Nat.div_div_eq_div_mul]

@[simp] theorem leBytes_length (n len : Nat) : (leBytes n len).length = len := by simp [leBytes]

theorem leNum_leBytes (n len : Nat) : leNum (leBytes n len) = n % 256 ^ len := by
  induction len generalizing n with
  | zero => rw [Nat.pow_zero, Nat.mod_one]; rfl
  | succ len ih =>
    rw [leBytes_succ, leNum, ih, BitVec.toNat_ofNat, show 256 ^ (len + 1) = 256 * 256 ^ len from Nat.pow_succ']
    exact Nat.mod_mul.symm

theorem leBytes_leNum (bs : List Byte) : leBytes (leNum bs) bs.length = bs := by
  induction bs with
  | nil => rfl
  | cons b bs ih =>
    have hb := b.isLt
    have hquot : (b.toNat + 256 * leNum bs) / 256 = leNum bs := by omega
    have hlow : BitVec.ofNat 8 (b.toNat + 256 * leNum bs) = b := by
      apply BitVec.eq_of_toNat_eq
      rw [BitVec.toNat_ofNat]
      omega
    rw [List.length_cons, leNum, leBytes_succ, hquot, ih, hlow]

theorem leNum_lt (bs : List Byte) : leNum bs < 256 ^ bs.length := by
  induction bs with
  | nil => decide
  | cons b bs ih =>
    have hb := b.isLt
    rw [leNum, List.length_cons, Nat.pow_succ']
    omega

@[simp] theorem numBytes_length (e : SaveEndian) (n len : Nat) : (numBytes e n len).length = len := by
  cases e <;> simp [numBytes]

/-- A number stored in a field reads back, mod the field's range. -/
theorem fieldNum_numBytes (e : SaveEndian) (n len : Nat) : fieldNum e (numBytes e n len) = n % 256 ^ len := by
  cases e <;> simp [fieldNum, numBytes, leNum_leBytes]

/-- A field's number stored again is the field. -/
theorem numBytes_fieldNum (e : SaveEndian) {bs : List Byte} {len : Nat} (h : bs.length = len) : numBytes e (fieldNum e bs) len = bs := by
  subst h
  cases e with
  | little => exact leBytes_leNum bs
  | big =>
    show (leBytes (leNum bs.reverse) bs.length).reverse = bs
    rw [← List.length_reverse, leBytes_leNum, List.reverse_reverse]

theorem fieldNum_lt (e : SaveEndian) {bs : List Byte} {len : Nat} (h : bs.length = len) : fieldNum e bs < 256 ^ len := by
  subst h
  cases e with
  | little => exact leNum_lt bs
  | big => exact List.length_reverse (as := bs) ▸ leNum_lt bs.reverse

/-! The record as a list of fields (R915). -/

/-- The fields of the record in order, one for every run of bytes of the same kind. -/
def recordFields (timestamp : BitVec 64) (s : State) : List (List Byte) :=
  [magicBytes s.cfg, versionBytes s.cfg, numBytes s.cfg.saveEndian timestamp.toNat 8, s.cart.rom.bytes 0x134 16,
    [s.cpu.a, s.cpu.b, s.cpu.c, s.cpu.d, s.cpu.e, s.cpu.h, s.cpu.l],
    numBytes s.cfg.saveEndian s.cpu.sp.toNat 2, numBytes s.cfg.saveEndian s.cpu.pc.toNat 2,
    [boolByte (flagZ s), boolByte (flagN s), boolByte (flagH s), boolByte (flagC s), boolByte s.cpu.halted, boolByte s.cpu.stopped],
    numBytes s.cfg.saveEndian s.cpu.cycles 8,
    [s.ppu.lcdc], [statRead s.ppu],
    [s.ppu.scy, s.ppu.scx, s.ppu.ly, s.ppu.lyc, s.ppu.dma, s.ppu.bgp, s.ppu.obp0, s.ppu.obp1, s.ppu.wy, s.ppu.wx],
    [s.ppu.mode.code.setWidth 8], numBytes s.cfg.saveEndian s.ppu.acc 4,
    [s.timer.div, s.timer.tima, s.timer.tma], [tacRead s], [joypRead s.joy], buttonBytes s.joy,
    s.sound.bytes 0xFF24 3, s.sound.bytes 0xFF30 16,
    [0xE0 ||| s.ic.reqs.setWidth 8], [s.ic.ie], [boolByte s.cpu.ime]]

/-- The lengths of the fields. -/
def fieldWidths : List Nat := [4, 4, 8, 16, 7, 2, 2, 6, 8, 1, 1, 10, 1, 4, 3, 1, 1, 8, 3, 16, 1, 1, 1]

theorem recordFields_widths (timestamp : BitVec 64) (s : State) : (recordFields timestamp s).map List.length = fieldWidths := by
  simp [recordFields, fieldWidths, magicBytes, versionBytes, buttonBytes, Memory.bytes]

theorem lcdBytes_eq (s : State) :
    ((List.range 12).map fun i => read8 s (BitVec.ofNat 16 (0xFF40 + i))) =
      [s.ppu.lcdc, statRead s.ppu, s.ppu.scy, s.ppu.scx, s.ppu.ly, s.ppu.lyc, s.ppu.dma, s.ppu.bgp, s.ppu.obp0, s.ppu.obp1, s.ppu.wy,
        s.ppu.wx] := rfl

theorem timerBytes_eq (s : State) :
    ((List.range 4).map fun i => read8 s (BitVec.ofNat 16 (0xFF04 + i))) = [s.timer.div, s.timer.tima, s.timer.tma, tacRead s] := rfl

theorem soundBytes_eq (s : State) : ((List.range 3).map fun i => read8 s (BitVec.ofNat 16 (0xFF24 + i))) = s.sound.bytes 0xFF24 3 := rfl

theorem waveBytes_eq (s : State) : ((List.range 16).map fun i => read8 s (BitVec.ofNat 16 (0xFF30 + i))) = s.sound.bytes 0xFF30 16 := rfl

theorem saveState_eq_flatten (timestamp : BitVec 64) (s : State) : saveState timestamp s = (recordFields timestamp s).flatten := by
  have hbyte : read8 s 0xFF00 = joypRead s.joy ∧ read8 s 0xFF0F = 0xE0 ||| s.ic.reqs.setWidth 8 := ⟨rfl, rfl⟩
  rw [saveState, headerBytes, cpuBytes, ppuBytes, deviceBytes, lcdBytes_eq, timerBytes_eq, soundBytes_eq, waveBytes_eq, hbyte.1, hbyte.2]
  simp [recordFields]

/-- R916: a record has 109 bytes. -/
theorem saveState_length (timestamp : BitVec 64) (s : State) : (saveState timestamp s).length = 109 := by
  rw [saveState_eq_flatten, List.length_flatten, recordFields_widths]
  rfl

theorem recordFields_length (timestamp : BitVec 64) (s : State) : (recordFields timestamp s).length = 23 := rfl

/-- Field `k` stands at the sum of the widths before it. -/
theorem recBytes_saveState (timestamp : BitVec 64) (s : State) {off len : Nat} (k : Nat)
    (h : k < 23 ∧ (fieldWidths.take k).sum = off ∧ fieldWidths.getD k 0 = len) :
    recBytes (saveState timestamp s) off len = (recordFields timestamp s).getD k [] := by
  obtain ⟨hk, rfl, rfl⟩ := h
  have hlen : k < (recordFields timestamp s).length := (recordFields_length timestamp s).symm ▸ hk
  have hwidth : k < fieldWidths.length := hk
  have hfield := List.drop_take_succ_flatten_eq_getElem (recordFields timestamp s) k hlen
  rw [recordFields_widths, List.sum_take_succ _ _ hwidth, ← List.getD_eq_getElem _ 0 hwidth, ← List.take_drop] at hfield
  rw [recBytes, saveState_eq_flatten, hfield, List.getD_eq_getElem _ _ hlen]

/-- A byte of a run of bytes, by its place in the run. -/
theorem getD_recBytes (bs : List Byte) (off : Nat) {len j : Nat} (hj : j < len) : (recBytes bs off len).getD j 0 = recByte bs (off + j) := by
  rw [recBytes, recByte, List.getD_eq_getElem?_getD, List.getElem?_take_of_lt hj, List.getElem?_drop, ← List.getD_eq_getElem?_getD]

/-- Byte `j` of field `k`. -/
theorem recByte_saveState (timestamp : BitVec 64) (s : State) {off : Nat} (k j : Nat)
    (h : k < 23 ∧ j < fieldWidths.getD k 0 ∧ (fieldWidths.take k).sum + j = off) :
    recByte (saveState timestamp s) off = ((recordFields timestamp s).getD k []).getD j 0 := by
  obtain ⟨hk, hj, rfl⟩ := h
  rw [← getD_recBytes _ _ hj, recBytes_saveState timestamp s k ⟨hk, rfl, rfl⟩]

theorem recBytes_length {bs : List Byte} {off len : Nat} (h : off + len ≤ bs.length) : (recBytes bs off len).length = len := by
  rw [recBytes, List.length_take, List.length_drop]
  omega

/-- A run of bytes inside the record, byte by byte. -/
theorem recBytes_eq_map {bs : List Byte} {off len : Nat} (h : off + len ≤ bs.length) :
    recBytes bs off len = (List.range len).map fun j => recByte bs (off + j) := by
  apply List.ext_getElem (by rw [recBytes_length h, List.length_map, List.length_range])
  intro j h1 h2
  have hj : j < len := by simpa using h2
  rw [List.getElem_map, List.getElem_range, ← getD_recBytes bs off hj, List.getD_eq_getElem]

/-- Records that agree on a run of bytes agree on each of them. -/
theorem recByte_eq_of_recBytes_eq {bs cs : List Byte} {off len i : Nat} (h : recBytes bs off len = recBytes cs off len) (hlo : off ≤ i)
    (hhi : i < off + len) : recByte bs i = recByte cs i := by
  obtain ⟨j, rfl⟩ := Nat.exists_eq_add_of_le hlo
  have hj : j < len := by omega
  rw [← getD_recBytes bs off hj, h, getD_recBytes cs off hj]

/-! The checks of a load (R917). -/

/-- What a record must satisfy to be loaded, in the order of the checks. -/
structure RecordValid (cfg : Config) (bs : List Byte) : Prop where
  length : bs.length = 109
  magic : recBytes bs 0 4 = magicBytes cfg
  version : recBytes bs 4 4 = versionBytes cfg
  mode : (recByte bs 69).toNat ≤ 3
  bools : ∀ o ∈ boolOffsets, (recByte bs o).toNat ≤ 1
  ly : (recByte bs 61).toNat ≤ 153
  acc : fieldNum cfg.saveEndian (recBytes bs 70 4) < (PpuMode.ofCode ((recByte bs 69).setWidth 2)).length

theorem ite_some_eq_none {α : Type} {p : Prop} [Decidable p] (a : α) (o : Option α) :
    (if p then some a else o) = none ↔ ¬ p ∧ o = none := by
  split <;> simp_all

theorem recordError_eq_none_iff (cfg : Config) (bs : List Byte) : recordError cfg bs = none ↔ RecordValid cfg bs := by
  simp only [recordError, ite_some_eq_none, not_not, not_lt, not_le, List.any_eq_true, decide_eq_true_eq, not_exists, not_and,
    and_true, ne_eq]
  exact ⟨fun ⟨h1, h2, h3, h4, h5, h6, h7⟩ => ⟨h1, h2, h3, h4, h5, h6, h7⟩,
    fun h => ⟨h.length, h.magic, h.version, h.mode, h.bools, h.ly, h.acc⟩⟩

theorem loadState_eq_ok_iff (bs : List Byte) (s t : State) : loadState bs s = .ok t ↔ RecordValid s.cfg bs ∧ applyRecord bs s = t := by
  rw [← recordError_eq_none_iff, loadState]
  cases recordError s.cfg bs <;> simp

theorem mem_boolOffsets (o : Nat) : o ∈ boolOffsets ↔ 43 ≤ o ∧ o ≤ 48 ∨ 79 ≤ o ∧ o ≤ 86 ∨ o = 108 := by
  simp only [boolOffsets, List.cons_append, List.nil_append, List.mem_cons, List.not_mem_nil, or_false]
  omega

theorem byte_le_one_iff (b : Byte) : b.toNat ≤ 1 ↔ b = 0 ∨ b = 1 := by
  revert b
  decide

/-- The length of the saved mode, by its byte (R801). -/
theorem savedModeLength {b : Byte} (h : b.toNat ≤ 3) :
    (PpuMode.ofCode (b.setWidth 2)).length = [204, 456, 80, 172].getD b.toNat 0 := by
  revert b
  decide

/-- The checks as R917 lists them. -/
theorem recordValid_iff (cfg : Config) (bs : List Byte) :
    RecordValid cfg bs ↔
      bs.length = 109 ∧ recBytes bs 0 4 = magicBytes cfg ∧ recBytes bs 4 4 = versionBytes cfg ∧ (recByte bs 69).toNat ≤ 3 ∧
      (∀ o, 43 ≤ o ∧ o ≤ 48 ∨ 79 ≤ o ∧ o ≤ 86 ∨ o = 108 → recByte bs o = 0 ∨ recByte bs o = 1) ∧ (recByte bs 61).toNat ≤ 153 ∧
      fieldNum cfg.saveEndian (recBytes bs 70 4) < [204, 456, 80, 172].getD (recByte bs 69).toNat 0 := by
  constructor
  · rintro ⟨hlength, hmagic, hversion, hmode, hbools, hly, hacc⟩
    exact ⟨hlength, hmagic, hversion, hmode, fun o ho => (byte_le_one_iff _).1 (hbools o ((mem_boolOffsets o).2 ho)), hly,
      savedModeLength hmode ▸ hacc⟩
  · rintro ⟨hlength, hmagic, hversion, hmode, hbools, hly, hacc⟩
    exact ⟨hlength, hmagic, hversion, hmode, fun o ho => (byte_le_one_iff _).2 (hbools o ((mem_boolOffsets o).1 ho)), hly,
      (savedModeLength hmode).symm ▸ hacc⟩

/-! The bytes a record keeps only in part, and the booleans. -/

theorem boolByte_eq_one (b : Bool) : (boolByte b == 1) = b := by cases b <;> rfl

theorem boolByte_recBool {bs : List Byte} {o : Nat} (h : (recByte bs o).toNat ≤ 1) : boolByte (recBool bs o) = recByte bs o := by
  have key : ∀ b : Byte, b.toNat ≤ 1 → boolByte (b == 1) = b := by decide
  exact key _ h

/-- STAT holds its enables, the coincidence bit and the mode (R122). -/
theorem statRead_fields (p : Ppu) : (statRead p).extractLsb' 3 4 = p.statEnables ∧ bitOf (statRead p) 2 = p.coincidence := by
  unfold statRead
  generalize p.statEnables = e
  cases p.coincidence <;> cases p.mode <;> revert e <;> decide

theorem mode_ofCode (m : PpuMode) : PpuMode.ofCode ((m.code.setWidth 8).setWidth 2) = m := by cases m <;> rfl

theorem mode_code_le (m : PpuMode) : (m.code.setWidth 8 : Byte).toNat ≤ 3 := by cases m <;> decide

theorem tacRead_setWidth (s : State) : (tacRead s).setWidth 3 = s.timer.tac := by
  unfold tacRead
  generalize s.timer.tac = tac
  revert tac
  decide

theorem iflagRead_setWidth (r : BitVec 5) : (0xE0 ||| r.setWidth 8 : Byte).setWidth 5 = r := by
  revert r
  decide

/-- JOYP holds the two select bits (R141). -/
theorem joypRead_select (j : Joypad) : bitOf (joypRead j) 5 = j.selAction ∧ bitOf (joypRead j) 4 = j.selDir := by
  have key : ∀ v : Byte, bitOf v 5 = bitOf (v &&& 0xF0) 5 ∧ bitOf v 4 = bitOf (v &&& 0xF0) 4 := by decide
  rw [(key (joypRead j)).1, (key (joypRead j)).2, joypRead_highNibble]
  cases j.selAction <;> cases j.selDir <;> decide

/-! The sound bytes (R917). -/

/-- Loading a run of bytes writes each of its addresses. -/
theorem read_loadSound (bs : List Byte) (off addr len : Nat) (m : Memory) (k : Nat) :
    (loadSound bs off addr len m).read k = if addr ≤ k ∧ k < addr + len then recByte bs (off + (k - addr)) else m.read k := by
  unfold loadSound
  induction len with
  | zero => exact (if_neg (by omega)).symm
  | succ n ih =>
    rw [List.range_succ, List.foldl_append, List.foldl_cons, List.foldl_nil, Memory.read_write, ih]
    by_cases hlast : addr + n = k
    · subst hlast
      rw [if_pos rfl, if_pos (by omega), Nat.add_sub_cancel_left]
    · rw [if_neg hlast]
      congr 1
      simp only [eq_iff_iff]
      omega

theorem wf_loadSound (bs : List Byte) (off addr len : Nat) {m : Memory} (h : m.wf = true) : (loadSound bs off addr len m).wf = true := by
  unfold loadSound
  generalize List.range len = is
  induction is generalizing m with
  | nil => exact h
  | cons i is ih => exact ih (Memory.wf_write _ _ _ h)

/-- The sound bytes of a loaded record: the three registers and wave RAM from the record, the others kept. -/
theorem applyRecord_sound (bs : List Byte) (s : State) (k : Nat) :
    (applyRecord bs s).sound.read k =
      if 0xFF30 ≤ k ∧ k < 0xFF30 + 16 then recByte bs (90 + (k - 0xFF30))
      else if 0xFF24 ≤ k ∧ k < 0xFF24 + 3 then recByte bs (87 + (k - 0xFF24))
      else s.sound.read k := by
  show (loadSound bs 90 0xFF30 16 (loadSound bs 87 0xFF24 3 s.sound)).read k = _
  rw [read_loadSound, read_loadSound]

theorem applyRecord_sound_wf (bs : List Byte) {s : State} (h : s.sound.wf = true) : (applyRecord bs s).sound.wf = true :=
  wf_loadSound _ _ _ _ (wf_loadSound _ _ _ _ h)

/-! Loading what was saved. -/

section
variable (timestamp : BitVec 64) (s : State)

theorem recBool_of_boolByte {bs : List Byte} {o : Nat} {b : Bool} (h : recByte bs o = boolByte b) : recBool bs o = b := by
  rw [recBool, h, boolByte_eq_one]

theorem recWord_of_numBytes {cfg : Config} {bs : List Byte} {o : Nat} {w : Word}
    (h : recBytes bs o 2 = numBytes cfg.saveEndian w.toNat 2) : recWord cfg bs o = w := by
  rw [recWord, h, fieldNum_numBytes]
  exact BitVec.eq_of_toNat_eq ((BitVec.toNat_ofNat _ _).trans (by have := w.isLt; omega))

theorem saved_registers :
    recByte (saveState timestamp s) 32 = s.cpu.a ∧ recByte (saveState timestamp s) 33 = s.cpu.b ∧
    recByte (saveState timestamp s) 34 = s.cpu.c ∧ recByte (saveState timestamp s) 35 = s.cpu.d ∧
    recByte (saveState timestamp s) 36 = s.cpu.e ∧ recByte (saveState timestamp s) 37 = s.cpu.h ∧
    recByte (saveState timestamp s) 38 = s.cpu.l :=
  have hreg {off : Nat} := recByte_saveState timestamp s (off := off) 4
  ⟨hreg 0 (by decide), hreg 1 (by decide), hreg 2 (by decide), hreg 3 (by decide), hreg 4 (by decide), hreg 5 (by decide),
    hreg 6 (by decide)⟩

theorem saved_words :
    recWord s.cfg (saveState timestamp s) 39 = s.cpu.sp ∧ recWord s.cfg (saveState timestamp s) 41 = s.cpu.pc :=
  ⟨recWord_of_numBytes (recBytes_saveState timestamp s 5 (by decide)), recWord_of_numBytes (recBytes_saveState timestamp s 6 (by decide))⟩

theorem saved_cpuBools :
    recBool (saveState timestamp s) 43 = flagZ s ∧ recBool (saveState timestamp s) 44 = flagN s ∧
    recBool (saveState timestamp s) 45 = flagH s ∧ recBool (saveState timestamp s) 46 = flagC s ∧
    recBool (saveState timestamp s) 47 = s.cpu.halted ∧ recBool (saveState timestamp s) 48 = s.cpu.stopped ∧
    recBool (saveState timestamp s) 108 = s.cpu.ime :=
  have hbool {off : Nat} := recByte_saveState timestamp s (off := off) 7
  ⟨recBool_of_boolByte (hbool 0 (by decide)), recBool_of_boolByte (hbool 1 (by decide)), recBool_of_boolByte (hbool 2 (by decide)),
    recBool_of_boolByte (hbool 3 (by decide)), recBool_of_boolByte (hbool 4 (by decide)), recBool_of_boolByte (hbool 5 (by decide)),
    recBool_of_boolByte (recByte_saveState timestamp s 22 0 (by decide))⟩

theorem saved_cycles (h : s.cpu.cycles < 2 ^ 64) : fieldNum s.cfg.saveEndian (recBytes (saveState timestamp s) 49 8) = s.cpu.cycles := by
  rw [recBytes_saveState timestamp s 8 (by decide)]
  exact (fieldNum_numBytes _ _ _).trans (Nat.mod_eq_of_lt h)

theorem loadCpu_saveState (hf : s.cpu.f &&& 0x0F = 0) (hcycles : s.cpu.cycles < 2 ^ 64) : loadCpu s.cfg (saveState timestamp s) = s.cpu := by
  obtain ⟨ha, hb, hc, hd, he, hh, hl⟩ := saved_registers timestamp s
  obtain ⟨hsp, hpc⟩ := saved_words timestamp s
  obtain ⟨hZ, hN, hH, hC, hhalted, hstopped, hime⟩ := saved_cpuBools timestamp s
  have hflags : packFlags { z := flagZ s, n := flagN s, h := flagH s, c := flagC s } = s.cpu.f := packFlags_flagsOf s hf
  rw [loadCpu, ha, hb, hc, hd, he, hh, hl, hsp, hpc, hZ, hN, hH, hC, hhalted, hstopped, hime, saved_cycles timestamp s hcycles, hflags]

theorem saved_lcd :
    recByte (saveState timestamp s) 57 = s.ppu.lcdc ∧ recByte (saveState timestamp s) 58 = statRead s.ppu ∧
    recByte (saveState timestamp s) 59 = s.ppu.scy ∧ recByte (saveState timestamp s) 60 = s.ppu.scx ∧
    recByte (saveState timestamp s) 61 = s.ppu.ly ∧ recByte (saveState timestamp s) 62 = s.ppu.lyc ∧
    recByte (saveState timestamp s) 63 = s.ppu.dma ∧ recByte (saveState timestamp s) 64 = s.ppu.bgp ∧
    recByte (saveState timestamp s) 65 = s.ppu.obp0 ∧ recByte (saveState timestamp s) 66 = s.ppu.obp1 ∧
    recByte (saveState timestamp s) 67 = s.ppu.wy ∧ recByte (saveState timestamp s) 68 = s.ppu.wx ∧
    recByte (saveState timestamp s) 69 = s.ppu.mode.code.setWidth 8 :=
  have hreg {off : Nat} := recByte_saveState timestamp s (off := off) 11
  ⟨recByte_saveState timestamp s 9 0 (by decide), recByte_saveState timestamp s 10 0 (by decide), hreg 0 (by decide), hreg 1 (by decide),
    hreg 2 (by decide), hreg 3 (by decide), hreg 4 (by decide), hreg 5 (by decide), hreg 6 (by decide), hreg 7 (by decide),
    hreg 8 (by decide), hreg 9 (by decide), recByte_saveState timestamp s 12 0 (by decide)⟩

theorem saved_acc (h : s.ppu.acc < s.ppu.mode.length) : fieldNum s.cfg.saveEndian (recBytes (saveState timestamp s) 70 4) = s.ppu.acc := by
  have hmode : s.ppu.mode.length ≤ 456 := by cases s.ppu.mode <;> decide
  rw [recBytes_saveState timestamp s 13 (by decide)]
  exact (fieldNum_numBytes _ _ _).trans (Nat.mod_eq_of_lt (by omega))

theorem loadPpu_saveState (hacc : s.ppu.acc < s.ppu.mode.length) : loadPpu s.cfg (saveState timestamp s) s.ppu = s.ppu := by
  obtain ⟨hlcdc, hstat, hscy, hscx, hly, hlyc, hdma, hbgp, hobp0, hobp1, hwy, hwx, hmode⟩ := saved_lcd timestamp s
  obtain ⟨henables, hcoincidence⟩ := statRead_fields s.ppu
  rw [loadPpu, hlcdc, hstat, hscy, hscx, hly, hlyc, hdma, hbgp, hobp0, hobp1, hwy, hwx, hmode, saved_acc timestamp s hacc, henables,
    hcoincidence, mode_ofCode]

theorem saved_buttons :
    recBool (saveState timestamp s) 79 = s.joy.a ∧ recBool (saveState timestamp s) 80 = s.joy.b ∧
    recBool (saveState timestamp s) 81 = s.joy.start ∧ recBool (saveState timestamp s) 82 = s.joy.select ∧
    recBool (saveState timestamp s) 83 = s.joy.up ∧ recBool (saveState timestamp s) 84 = s.joy.down ∧
    recBool (saveState timestamp s) 85 = s.joy.left ∧ recBool (saveState timestamp s) 86 = s.joy.right :=
  have hbool {off : Nat} := recByte_saveState timestamp s (off := off) 17
  ⟨recBool_of_boolByte (hbool 0 (by decide)), recBool_of_boolByte (hbool 1 (by decide)), recBool_of_boolByte (hbool 2 (by decide)),
    recBool_of_boolByte (hbool 3 (by decide)), recBool_of_boolByte (hbool 4 (by decide)), recBool_of_boolByte (hbool 5 (by decide)),
    recBool_of_boolByte (hbool 6 (by decide)), recBool_of_boolByte (hbool 7 (by decide))⟩

theorem loadJoypad_saveState : loadJoypad (saveState timestamp s) = s.joy := by
  obtain ⟨ha, hb, hstart, hselect, hup, hdown, hleft, hright⟩ := saved_buttons timestamp s
  have hjoyp : recByte (saveState timestamp s) 78 = joypRead s.joy := recByte_saveState timestamp s 16 0 (by decide)
  obtain ⟨haction, hdir⟩ := joypRead_select s.joy
  rw [loadJoypad, ha, hb, hstart, hselect, hup, hdown, hleft, hright, hjoyp, haction, hdir]

theorem bytes_getD (m : Memory) (k len : Nat) {j : Nat} (h : j < len) : (m.bytes k len).getD j 0 = m.read (k + j) :=
  map_range_getD (fun i => m.read (k + i)) h 0

theorem saved_sound {j : Nat} (h : j < 3) : recByte (saveState timestamp s) (87 + j) = s.sound.read (0xFF24 + j) := by
  rw [recByte_saveState timestamp s (off := 87 + j) 18 j ⟨by decide, h, rfl⟩]
  exact bytes_getD _ _ _ h

theorem saved_wave {j : Nat} (h : j < 16) : recByte (saveState timestamp s) (90 + j) = s.sound.read (0xFF30 + j) := by
  rw [recByte_saveState timestamp s (off := 90 + j) 19 j ⟨by decide, h, rfl⟩]
  exact bytes_getD _ _ _ h

theorem loadSound_saveState (h : s.sound.wf = true) :
    loadSound (saveState timestamp s) 90 0xFF30 16 (loadSound (saveState timestamp s) 87 0xFF24 3 s.sound) = s.sound := by
  refine Memory.eq_of_read (wf_loadSound _ _ _ _ (wf_loadSound _ _ _ _ h)) h fun k => ?_
  rw [read_loadSound, read_loadSound]
  split_ifs with hwave hsound
  · rw [saved_wave timestamp s (by omega), Nat.add_sub_cancel' hwave.1]
  · rw [saved_sound timestamp s (by omega), Nat.add_sub_cancel' hsound.1]
  · rfl

theorem saved_timer :
    recByte (saveState timestamp s) 74 = s.timer.div ∧ recByte (saveState timestamp s) 75 = s.timer.tima ∧
    recByte (saveState timestamp s) 76 = s.timer.tma ∧ (recByte (saveState timestamp s) 77).setWidth 3 = s.timer.tac :=
  have hreg {off : Nat} := recByte_saveState timestamp s (off := off) 14
  ⟨hreg 0 (by decide), hreg 1 (by decide), hreg 2 (by decide),
    (congrArg (BitVec.setWidth 3) (recByte_saveState timestamp s 15 0 (by decide))).trans (tacRead_setWidth s)⟩

theorem saved_interrupts :
    (recByte (saveState timestamp s) 106).setWidth 5 = s.ic.reqs ∧ recByte (saveState timestamp s) 107 = s.ic.ie :=
  ⟨(congrArg (BitVec.setWidth 5) (recByte_saveState timestamp s 20 0 (by decide))).trans (iflagRead_setWidth _),
    recByte_saveState timestamp s 21 0 (by decide)⟩

end

/-- Loading the record of a state a record can hold changes nothing (R917, R918). -/
theorem applyRecord_saveState (timestamp : BitVec 64) {s : State} (h : Saveable s) : applyRecord (saveState timestamp s) s = s := by
  obtain ⟨hdiv, htima, htma, htac⟩ := saved_timer timestamp s
  obtain ⟨hreqs, hie⟩ := saved_interrupts timestamp s
  rw [applyRecord, loadSound_saveState timestamp s h.sound, loadCpu_saveState timestamp s h.fLowNibble h.cyclesFit,
    loadPpu_saveState timestamp s h.accBound, loadJoypad_saveState, hdiv, htima, htma, htac, hreqs, hie]

theorem getD_of_all {l : List Byte} {P : Byte → Prop} (hl : ∀ b ∈ l, P b) (h0 : P 0) (j : Nat) : P (l.getD j 0) := by
  rcases Nat.lt_or_ge j l.length with h | h
  · rw [List.getD_eq_getElem _ _ h]
    exact hl _ (List.getElem_mem h)
  · rwa [List.getD_eq_default _ _ h]

theorem boolByte_le_one (b : Bool) : (boolByte b).toNat ≤ 1 := by cases b <;> decide

theorem saved_bools (timestamp : BitVec 64) (s : State) : ∀ o ∈ boolOffsets, (recByte (saveState timestamp s) o).toNat ≤ 1 := by
  intro o ho
  rcases (mem_boolOffsets o).1 ho with ⟨hlo, hhi⟩ | ⟨hlo, hhi⟩ | rfl
  · obtain ⟨j, rfl⟩ := Nat.exists_eq_add_of_le hlo
    rw [recByte_saveState timestamp s (off := 43 + j) 7 j ⟨by decide, (by omega : j < 6), rfl⟩]
    exact getD_of_all (P := fun b => b.toNat ≤ 1) (by simp [recordFields, boolByte_le_one]) (by decide) j
  · obtain ⟨j, rfl⟩ := Nat.exists_eq_add_of_le hlo
    rw [recByte_saveState timestamp s (off := 79 + j) 17 j ⟨by decide, (by omega : j < 8), rfl⟩]
    exact getD_of_all (P := fun b => b.toNat ≤ 1) (by simp [recordFields, buttonBytes, boolByte_le_one]) (by decide) j
  · rw [recByte_saveState timestamp s 22 0 (by decide)]
    exact boolByte_le_one _

theorem recordValid_saveState (timestamp : BitVec 64) {s : State} (h : Saveable s) : RecordValid s.cfg (saveState timestamp s) := by
  obtain ⟨-, -, -, -, hly, -, -, -, -, -, -, -, hmode⟩ := saved_lcd timestamp s
  refine ⟨saveState_length timestamp s, recBytes_saveState timestamp s 0 (by decide), recBytes_saveState timestamp s 1 (by decide), ?_,
    saved_bools timestamp s, hly ▸ h.lyBound, ?_⟩
  · rw [hmode]
    exact mode_code_le _
  · rw [hmode, mode_ofCode, saved_acc timestamp s h.accBound]
    exact h.accBound

/-! Saving what was loaded. -/

/-- The fields a load keeps whole, by offset and length: all of the record from the CPU on but STAT, TAC, JOYP and IF. -/
def wholeFields : List (Nat × Nat) :=
  [(32, 7), (39, 2), (41, 2), (43, 6), (49, 8), (57, 1), (59, 10), (69, 1), (70, 4), (74, 3), (79, 8), (87, 3), (90, 16), (107, 1), (108, 1)]

theorem wholeFields_cover : ∀ i < 109, 32 ≤ i → i ∉ [58, 77, 78, 106] → ∃ f ∈ wholeFields, f.1 ≤ i ∧ i < f.1 + f.2 := by decide

theorem mode_code_ofCode {b : Byte} (h : b.toNat ≤ 3) : (PpuMode.ofCode (b.setWidth 2)).code.setWidth 8 = b := by
  revert b
  decide

theorem numBytes_recWord (cfg : Config) {bs : List Byte} {o : Nat} (h : o + 2 ≤ bs.length) :
    numBytes cfg.saveEndian (recWord cfg bs o).toNat 2 = recBytes bs o 2 := by
  have hlen := recBytes_length h
  have hlt : fieldNum cfg.saveEndian (recBytes bs o 2) < 2 ^ 16 := fieldNum_lt cfg.saveEndian hlen
  rw [recWord, BitVec.toNat_ofNat, Nat.mod_eq_of_lt hlt, numBytes_fieldNum _ hlen]

theorem flags_applyRecord (bs : List Byte) (s : State) :
    flagZ (applyRecord bs s) = recBool bs 43 ∧ flagN (applyRecord bs s) = recBool bs 44 ∧ flagH (applyRecord bs s) = recBool bs 45 ∧
      flagC (applyRecord bs s) = recBool bs 46 := packFlags_bits _

theorem bytes_of_read {m : Memory} {bs : List Byte} {k o len : Nat} (h : ∀ j < len, m.read (k + j) = recByte bs (o + j)) :
    m.bytes k len = (List.range len).map fun j => recByte bs (o + j) :=
  List.map_congr_left fun j hj => h j (List.mem_range.1 hj)

section
variable {bs : List Byte} {s : State} (timestamp : BitVec 64) (h : RecordValid s.cfg bs)
include h

/-- A run of the record as the list of its bytes. -/
theorem recBytes_bytes (o len : Nat) (hin : o + len ≤ 109) : (List.range len).map (fun j => recByte bs (o + j)) = recBytes bs o len :=
  (recBytes_eq_map (h.length ▸ hin)).symm

/-- A run of booleans, stored again, is as it was. -/
theorem recBytes_bools (o len : Nat) (hin : o + len ≤ 109) (hbools : ∀ j < len, o + j ∈ boolOffsets) :
    (List.range len).map (fun j => boolByte (recBool bs (o + j))) = recBytes bs o len := by
  rw [← recBytes_bytes h o len hin]
  exact List.map_congr_left fun j hj => boolByte_recBool (h.bools _ (hbools j (List.mem_range.1 hj)))

/-- A field that a load keeps whole is saved as it was. -/
theorem resaved_field {f : Nat × Nat} (hf : f ∈ wholeFields) :
    recBytes (saveState timestamp (applyRecord bs s)) f.1 f.2 = recBytes bs f.1 f.2 := by
  have hfield {off len : Nat} := recBytes_saveState timestamp (applyRecord bs s) (off := off) (len := len)
  simp only [wholeFields, List.mem_cons, List.not_mem_nil, or_false] at hf
  rcases hf with rfl | rfl | rfl | rfl | rfl | rfl | rfl | rfl | rfl | rfl | rfl | rfl | rfl | rfl | rfl
  · exact (hfield 4 (by decide)).trans (recBytes_bytes h 32 7 (by decide))
  · exact (hfield 5 (by decide)).trans (numBytes_recWord s.cfg (by rw [h.length]; decide))
  · exact (hfield 6 (by decide)).trans (numBytes_recWord s.cfg (by rw [h.length]; decide))
  · obtain ⟨hZ, hN, hH, hC⟩ := flags_applyRecord bs s
    refine (hfield 7 (by decide)).trans (Eq.trans ?_ (recBytes_bools h 43 6 (by decide) (by decide)))
    simp only [recordFields, List.getD_cons_succ, List.getD_cons_zero, hZ, hN, hH, hC]
    rfl
  · exact (hfield 8 (by decide)).trans (numBytes_fieldNum _ (recBytes_length (by rw [h.length]; decide)))
  · exact (hfield 9 (by decide)).trans (recBytes_bytes h 57 1 (by decide))
  · exact (hfield 11 (by decide)).trans (recBytes_bytes h 59 10 (by decide))
  · exact (hfield 12 (by decide)).trans ((congrArg (· :: []) (mode_code_ofCode h.mode)).trans (recBytes_bytes h 69 1 (by decide)))
  · exact (hfield 13 (by decide)).trans (numBytes_fieldNum _ (recBytes_length (by rw [h.length]; decide)))
  · exact (hfield 14 (by decide)).trans (recBytes_bytes h 74 3 (by decide))
  · exact (hfield 17 (by decide)).trans (recBytes_bools h 79 8 (by decide) (by decide))
  · refine (hfield 18 (by decide)).trans ((bytes_of_read fun j hj => ?_).trans (recBytes_bytes h 87 3 (by decide)))
    rw [applyRecord_sound, if_neg (by omega), if_pos (by omega), Nat.add_sub_cancel_left]
  · refine (hfield 19 (by decide)).trans ((bytes_of_read fun j hj => ?_).trans (recBytes_bytes h 90 16 (by decide)))
    rw [applyRecord_sound, if_pos (by omega), Nat.add_sub_cancel_left]
  · exact (hfield 21 (by decide)).trans (recBytes_bytes h 107 1 (by decide))
  · exact (hfield 22 (by decide)).trans (recBytes_bools h 108 1 (by decide) (by decide))

/-- STAT is saved with bit 7 set and the mode that was loaded (R122). -/
theorem resaved_stat :
    recByte (saveState timestamp (applyRecord bs s)) 58 = 0x80 ||| (recByte bs 58 &&& 0x7C) ||| recByte bs 69 := by
  have key : ∀ v : Byte, (v.extractLsb' 3 4).setWidth 8 <<< 3 ||| (if bitOf v 2 then 4 else 0) = v &&& 0x7C := by decide
  rw [recByte_saveState timestamp _ 10 0 (by decide), ← key, ← BitVec.or_assoc]
  exact congrArg (0x80 ||| (_ : Byte) ||| (_ : Byte) ||| ·) (mode_code_ofCode h.mode)

end

theorem resaved_tac (timestamp : BitVec 64) (bs : List Byte) (s : State) :
    recByte (saveState timestamp (applyRecord bs s)) 77 = 0xF8 ||| recByte bs 77 := by
  have key : ∀ v : Byte, 0xF8 ||| (v.setWidth 3).setWidth 8 = 0xF8 ||| v := by decide
  exact (recByte_saveState timestamp _ 15 0 (by decide)).trans (key _)

theorem resaved_iflag (timestamp : BitVec 64) (bs : List Byte) (s : State) :
    recByte (saveState timestamp (applyRecord bs s)) 106 = 0xE0 ||| recByte bs 106 := by
  have key : ∀ v : Byte, 0xE0 ||| (v.setWidth 5).setWidth 8 = 0xE0 ||| v := by decide
  exact (recByte_saveState timestamp _ 20 0 (by decide)).trans (key _)

/-- JOYP is saved with the two select bits that were loaded (R141). -/
theorem resaved_joyp (timestamp : BitVec 64) (bs : List Byte) (s : State) :
    recByte (saveState timestamp (applyRecord bs s)) 78 &&& 0x30 = recByte bs 78 &&& 0x30 := by
  have hread : recByte (saveState timestamp (applyRecord bs s)) 78 = joypRead (loadJoypad bs) :=
    recByte_saveState timestamp _ 16 0 (by decide)
  obtain ⟨haction, hdir⟩ := joypRead_select (loadJoypad bs)
  have key : ∀ v : Byte, v &&& 0x30 = (if bitOf v 5 then 0x20 else 0) ||| (if bitOf v 4 then 0x10 else 0) := by decide
  rw [hread, key, key (recByte bs 78), haction, hdir]
  rfl

theorem applyRecord_keepsUnsaved (bs : List Byte) (s : State) : KeepsUnsaved s (applyRecord bs s) := by
  refine ⟨rfl, fun k hk => ?_⟩
  rw [applyRecord_sound, if_neg (by omega), if_neg (by omega)]

theorem applyRecord_saveable {bs : List Byte} {s : State} (h : RecordValid s.cfg bs) (hs : s.sound.wf = true) :
    Saveable (applyRecord bs s) where
  fLowNibble := packFlags_lowNibble _
  cyclesFit := fieldNum_lt s.cfg.saveEndian (recBytes_length (by rw [h.length]; decide))
  accBound := h.acc
  lyBound := h.ly
  sound := applyRecord_sound_wf bs hs

/-- Settles O55: the round trip field by field, the checks in their order, and the fields of a loaded record saved again. -/
theorem saveThenLoadKeepsState : Obligations.SaveThenLoadKeepsState := by
  intro timestamp bs s
  refine ⟨fun hs => ⟨saveState_length timestamp s, ?roundTrip⟩, ?accepted, fun t ht => ?loaded⟩
  case roundTrip => exact (loadState_eq_ok_iff _ _ _).2 ⟨recordValid_saveState timestamp hs, applyRecord_saveState timestamp hs⟩
  case accepted =>
    simp only [loadState_eq_ok_iff, exists_and_left, exists_eq', and_true]
    exact recordValid_iff s.cfg bs
  case loaded =>
    obtain ⟨hvalid, rfl⟩ := (loadState_eq_ok_iff _ _ _).1 ht
    refine ⟨fun i hlo hhi hpart => ?_, resaved_stat timestamp hvalid, resaved_tac timestamp bs s, resaved_joyp timestamp bs s,
      resaved_iflag timestamp bs s, applyRecord_keepsUnsaved bs s, applyRecord_saveable hvalid⟩
    obtain ⟨f, hf, hin⟩ := wholeFields_cover i hhi hlo hpart
    exact recByte_eq_of_recBytes_eq (resaved_field timestamp hvalid hf) hin.1 hin.2

end Sys2Proof.Machine
end
